-- ==== Sys2Proof/Word.lean ====
section
/-! DEFINITION. The words of the DK426's frames and the three fixed-size tables its state is built from:
one entry per pinion, per lane, and per channel, chain position or slot. -/

namespace Sys2Proof

/-- One byte of a frame. -/
abbrev Byte := BitVec 8

/-- A two-byte field, most significant byte first in a frame (chapter 10, section 10.2). -/
abbrev Word16 := BitVec 16

/-- A four-byte field. -/
abbrev Word32 := BitVec 32

/-- The pinions are A and B (conventions, "Pinions"). -/
inductive Pinion where
  | a
  | b
  deriving DecidableEq, Repr

/-- The pinion that is not `k`. -/
def Pinion.other : Pinion → Pinion
  | .a => .b
  | .b => .a

/-- One entry for pinion A and one for pinion B. -/
structure Pair (α : Type) where
  a : α
  b : α
  deriving DecidableEq, Repr

def Pair.get {α : Type} (t : Pair α) : Pinion → α
  | .a => t.a
  | .b => t.b

def Pair.set {α : Type} (t : Pair α) (k : Pinion) (x : α) : Pair α :=
  match k with
  | .a => ⟨x, t.b⟩
  | .b => ⟨t.a, x⟩

def Pair.both {α : Type} (x : α) : Pair α := ⟨x, x⟩

def Pair.map {α β : Type} (f : α → β) (t : Pair α) : Pair β := ⟨f t.a, f t.b⟩

/-- One entry per lane 0..3. -/
structure Four (α : Type) where
  e0 : α
  e1 : α
  e2 : α
  e3 : α
  deriving DecidableEq, Repr

def Four.get {α : Type} (t : Four α) : Fin 4 → α
  | 0 => t.e0
  | 1 => t.e1
  | 2 => t.e2
  | 3 => t.e3

def Four.set {α : Type} (t : Four α) (i : Fin 4) (x : α) : Four α :=
  match i with
  | 0 => ⟨x, t.e1, t.e2, t.e3⟩
  | 1 => ⟨t.e0, x, t.e2, t.e3⟩
  | 2 => ⟨t.e0, t.e1, x, t.e3⟩
  | 3 => ⟨t.e0, t.e1, t.e2, x⟩

def Four.map {α β : Type} (f : Fin 4 → α → β) (t : Four α) : Four β :=
  ⟨f 0 t.e0, f 1 t.e1, f 2 t.e2, f 3 t.e3⟩

def Four.any {α : Type} (p : α → Bool) (t : Four α) : Bool :=
  p t.e0 || p t.e1 || p t.e2 || p t.e3

/-- One entry per channel, chain position or trip table slot 0..7. -/
structure Eight (α : Type) where
  e0 : α
  e1 : α
  e2 : α
  e3 : α
  e4 : α
  e5 : α
  e6 : α
  e7 : α
  deriving DecidableEq, Repr

def Eight.get {α : Type} (t : Eight α) : Fin 8 → α
  | 0 => t.e0
  | 1 => t.e1
  | 2 => t.e2
  | 3 => t.e3
  | 4 => t.e4
  | 5 => t.e5
  | 6 => t.e6
  | 7 => t.e7

def Eight.set {α : Type} (t : Eight α) (i : Fin 8) (x : α) : Eight α :=
  match i with
  | 0 => ⟨x, t.e1, t.e2, t.e3, t.e4, t.e5, t.e6, t.e7⟩
  | 1 => ⟨t.e0, x, t.e2, t.e3, t.e4, t.e5, t.e6, t.e7⟩
  | 2 => ⟨t.e0, t.e1, x, t.e3, t.e4, t.e5, t.e6, t.e7⟩
  | 3 => ⟨t.e0, t.e1, t.e2, x, t.e4, t.e5, t.e6, t.e7⟩
  | 4 => ⟨t.e0, t.e1, t.e2, t.e3, x, t.e5, t.e6, t.e7⟩
  | 5 => ⟨t.e0, t.e1, t.e2, t.e3, t.e4, x, t.e6, t.e7⟩
  | 6 => ⟨t.e0, t.e1, t.e2, t.e3, t.e4, t.e5, x, t.e7⟩
  | 7 => ⟨t.e0, t.e1, t.e2, t.e3, t.e4, t.e5, t.e6, x⟩

def Eight.map {α β : Type} (f : Fin 8 → α → β) (t : Eight α) : Eight β :=
  ⟨f 0 t.e0, f 1 t.e1, f 2 t.e2, f 3 t.e3, f 4 t.e4, f 5 t.e5, f 6 t.e6, f 7 t.e7⟩

def Eight.const {α : Type} (x : α) : Eight α := ⟨x, x, x, x, x, x, x, x⟩

def Eight.toList {α : Type} (t : Eight α) : List α :=
  [t.e0, t.e1, t.e2, t.e3, t.e4, t.e5, t.e6, t.e7]

/-- The numbers 0..7 in rising order: channels, chain positions and slots. -/
def eightIndexes : List (Fin 8) := [0, 1, 2, 3, 4, 5, 6, 7]

end Sys2Proof
end

