-- ==== Sys2Proof/Config.lean ====
section
/-! DEFINITION. What the DK426 fixes once for all: bounds, default settings and identity, each with the rule that
states it, and the one value the spec leaves open as a constant without a body. -/

namespace Sys2Proof.Config

/-- The accumulator bound, 32767 × 65536 (R57, R66). -/
def accBound : Int := 2147418112

/-- The share offset lies within ±3277 (R23). -/
def offsetBound : Int := 3277

/-- The largest ceiling (R52) and the value of a ceiling that does not limit (R39, R40). -/
def fullScale : Nat := 32767

/-- The largest ramp step (R52). -/
def rampStepMax : Nat := 4096

/-- A history ring holds up to 64 snapshot records (R133). -/
def ringSize : Nat := 64

/-- A pre-trigger part holds at most 48 records (R140). -/
def preSize : Nat := 48

/-- A post-trigger part holds at most 16 records (R143). -/
def postSize : Nat := 16

/-- The later-cause list holds up to four causes (R142). -/
def laterSize : Nat := 4

/-- The trip count and the two error counts of a node entry end at 65535 (R139, R102). -/
def countMax : Nat := 65535

/-- The sixteenth consecutive failed round loses a node (R104). -/
def missLimit : Nat := 16

/-- A position is searched for at most 64 rounds (R111). -/
def searchRounds : Nat := 64

/-- The silence periods in milliseconds by silence code (R11). -/
def silencePeriod : Nat → Nat
  | 0 => 2
  | 1 => 3
  | 2 => 5
  | 3 => 8
  | 4 => 12
  | 5 => 20
  | 6 => 30
  | _ => 50

/-- The nominal reply position of chain position c, in bit times (chapter 6, Table 1, note 1). -/
def nominal (c : Fin 8) : Nat := 48 + 48 * c.val

/-- The part code of READ IDENT (R171). -/
def partCode : Word16 := 0x426

/-- The silicon revision of READ IDENT (R171). -/
def revision : Byte := 2

/-- DESIGN CHOICE (log entry 11): the spec does not state the two count bytes of READ NODE's last result while
its kind is none or running (R159, Table 6). This constant has no body: nothing can be proved of its values. -/
opaque freeByte : Nat → Byte

end Sys2Proof.Config
end

