-- ==== Sys2Proof/Machine/Arith.lean ====
section
/-! DEFINITION. The arithmetic the chapters share: clamping and saturation, the whole square root, parity, byte order,
bit packing and the CRC-8. -/

namespace Sys2Proof.Machine

/-- clamp(x, lo, hi) of the conventions. -/
def clampInt (x lo hi : Int) : Int := if x < lo then lo else if hi < x then hi else x

/-- sat16 of the conventions. -/
def sat16 (x : Int) : Int := clampInt x (-32768) 32767

/-- The 17-bit magnitude of a signed 16-bit field, so that -32768 gives 32768 (R81). -/
def magnitude (x : Word16) : Nat := x.toInt.natAbs

/-- One round of the whole square root: keep `root` with bit `b` added if its square does not exceed `n`. -/
def isqrtStep (n root b : Nat) : Nat := if (root + 2 ^ b) * (root + 2 ^ b) ≤ n then root + 2 ^ b else root

/-- The bits b - 1, …, 0 of the root, settled from the top. -/
def isqrtBits (n : Nat) : Nat → Nat → Nat
  | 0, root => root
  | b + 1, root => isqrtBits n b (isqrtStep n root b)

/-- The largest whole number whose square does not exceed `n` (R123). -/
def isqrt (n : Nat) : Nat := isqrtBits n (n.log2 / 2 + 1) 0

/-- How many of the bits 0 .. n - 1 of `w` are 1. -/
def onesBelow {m : Nat} (w : BitVec m) (n : Nat) : Nat := (List.range n).countP fun i => w.getLsbD i

/-- The two bytes of a field, most significant first (section 10.2). -/
def be16 (v : Word16) : List Byte := [v.extractLsb' 8 8, v.extractLsb' 0 8]

/-- The four bytes of a field, most significant first (section 10.2). -/
def be32 (v : Word32) : List Byte :=
  [v.extractLsb' 24 8, v.extractLsb' 16 8, v.extractLsb' 8 8, v.extractLsb' 0 8]

/-- A count as one byte. -/
def byteOf (v : Nat) : Byte := BitVec.ofNat 8 v

/-- An unsigned value as a two-byte field. -/
def nat16 (v : Nat) : List Byte := be16 (BitVec.ofNat 16 v)

/-- A signed value as a two-byte field, two's complement (section 10.2). -/
def int16 (v : Int) : List Byte := be16 (BitVec.ofInt 16 v)

/-- An unsigned value as a four-byte field. -/
def nat32 (v : Nat) : List Byte := be32 (BitVec.ofNat 32 v)

/-- An on, off or flag byte (R159). -/
def flagByte (b : Bool) : Byte := if b then 1 else 0

/-- A byte of flags, bit 0 first. Bits beyond the list are 0 (log entry 10). -/
def packBits : List Bool → Byte
  | [] => 0
  | b :: bs => (packBits bs <<< 1) ||| flagByte b

/-- One bit of the CRC-8 with polynomial 0x2F (chapter 10, Table 3, note 1). -/
def crcBit (crc : Byte) : Byte := if crc.getLsbD 7 then (crc <<< 1) ^^^ 0x2F else crc <<< 1

/-- One byte of the CRC-8, most significant bit first. -/
def crcByte (crc b : Byte) : Byte :=
  crcBit (crcBit (crcBit (crcBit (crcBit (crcBit (crcBit (crcBit (crc ^^^ b))))))))

/-- The CRC-8: initial value 0xFF, no reflection, no final inversion (chapter 10, Table 3, note 1). -/
def crc8 (bytes : List Byte) : Byte := bytes.foldl crcByte 0xFF

/-- The last `n` entries of a list, or all of it if it is shorter. -/
def lastN {α : Type} (n : Nat) (l : List α) : List α := l.drop (l.length - n)

end Sys2Proof.Machine
end

