-- ==== Sys2Proof/Syntax.lean ====
section
/-! DEFINITION. The commands of the DK426: one constructor of `Instr` per row of spec/opcode_table.json.
A request carries the lane it arrived on and the payload fields of chapter 10, Table 6, at their widths;
an event carries what the outside world contributes to it. -/

namespace Sys2Proof

/-- Lanes are numbered 0..3 (conventions, "Numbering"). -/
abbrev Lane := Fin 4

/-- Channel c is the sensor node at chain position c (conventions, "Numbering"). -/
abbrev Channel := Fin 8

/-- The strap codes of the four lanes as they stand on the pins (R158). -/
abbrev Straps := Four (BitVec 2)

/-- A 16-bit-time word on its way up the chain (R98): the observed position of its first bit in bit times
from the first bit of the poll (R101), and its bits as received, first bit most significant (section 6.2). -/
structure ChainWord where
  start : Nat
  bits : Word16
  deriving DecidableEq, Repr

/-- The commands. -/
inductive Instr where
  /-- SELECTION_START (R160): the lane's select becomes active. -/
  | selectionStart (lane : Lane)
  /-- BAD_FRAME (R161): a selection ends whose whole bytes, in order, fail a frame check. -/
  | badFrame (lane : Lane) (bytes : List Byte)
  /-- PENDING_SELECTION (R162): a selection answered with PENDING ends, with these bytes shifted in. -/
  | pendingSelection (lane : Lane) (bytes : List Byte)
  /-- NOP (R163). -/
  | nop (lane : Lane)
  /-- READ STATUS (R170). -/
  | readStatus (lane : Lane)
  /-- READ IDENT (R171). -/
  | readIdent (lane : Lane)
  /-- READ LIMITS (R54): the payload is empty or one page byte. -/
  | readLimits (lane : Lane) (page : Option Byte)
  /-- READ CHANNEL (R131). -/
  | readChannel (lane : Lane) (channel : Byte)
  /-- READ NODE (R114). -/
  | readNode (lane : Lane) (position : Byte)
  /-- READ TRIP SUMMARY (R145): a slot byte and an optional page byte. -/
  | readTripSummary (lane : Lane) (slot : Byte) (page : Option Byte)
  /-- SET CURSOR (R151). -/
  | setCursor (lane : Lane) (slot pinion index direction : Byte)
  /-- READ NEXT (R153). -/
  | readNext (lane : Lane)
  /-- ACK NOTICE (R167). -/
  | ackNotice (lane : Lane) (kind : Byte)
  /-- SET MASK (R168). -/
  | setMask (lane : Lane) (mask : Byte)
  /-- SAMPLE (R10, R64): bridge flags in bits 0 (ready) and 1 (fault); the demand T is optional (R25). -/
  | sample (lane : Lane) (iMeas n : Word16) (counter bridge : Byte) (demand : Option Word16)
  /-- ACK TRIP (R19). -/
  | ackTrip (lane : Lane)
  /-- TRIP (R18). -/
  | trip (lane : Lane)
  /-- ARM (R3). -/
  | arm (lane : Lane)
  /-- DISARM (R4). -/
  | disarm (lane : Lane)
  /-- START (R5). -/
  | start (lane : Lane)
  /-- INCH (R5). -/
  | inch (lane : Lane)
  /-- STOP (R6). -/
  | stop (lane : Lane)
  /-- CLEAR TRIP (R20). -/
  | clearTrip (lane : Lane)
  /-- SET LIMITS (R52): L_plant, C_A, C_B, D, inch ceiling, R. -/
  | setLimits (lane : Lane) (plant ceilA ceilB derate inchCeiling rampStep : Word16)
  /-- SET GAINS (R59): Kp, Ki, feedforward byte, u_min, u_max. -/
  | setGains (lane : Lane) (kp ki : Word16) (feedforward : Byte) (uMin uMax : Word16)
  /-- SET SHARE (R24): lead code and offset. -/
  | setShare (lane : Lane) (lead : Byte) (offset : Word16)
  /-- SET WATCH (chapter 5, Table 3): its ten fields in order. -/
  | setWatch (lane : Lane) (oc : Word16) (q : Word32) (decay imbalance : Word16) (shift persistence : Byte)
      (zeroBand zeroSpeed stopTimeout : Word16) (silenceCode : Byte)
  /-- SET CHANNEL (R117). -/
  | setChannel (lane : Lane) (channel enabled group : Byte) (alert danger hysteresis : Word16)
      (tripOnLoss : Byte)
  /-- SET CHAIN (R113, R119). -/
  | setChain (lane : Lane) (rate window na nd nc : Byte)
  /-- DISCOVER (R108). -/
  | discover (lane : Lane) (count : Byte)
  /-- RELEASE (R146). -/
  | release (lane : Lane) (slot : Byte)
  /-- SET TIME (R173). -/
  | setTime (lane : Lane) (time : Word32)
  /-- CLEAR CAPTURE (R165). -/
  | clearCapture (lane : Lane)
  /-- CLEAR CAUSES (R174). -/
  | clearCauses (lane : Lane)
  /-- RESET (R175), with the strap codes read again at its taking (R158). -/
  | reset (lane : Lane) (straps : Straps)
  /-- POWER_ON (R174): the supply rises, with the reset pin low through it or not, and these straps. -/
  | powerOn (straps : Straps) (pinLow : Bool)
  /-- RESET_PIN (R176): the reset pin has been low for 2 µs. -/
  | resetPin
  /-- RESET_PIN_RELEASE (R176): the reset pin is released, and the straps are read. -/
  | resetPinRelease (straps : Straps)
  /-- INITIALISATION_END (R176): 2 ms after the start of the initialisation. -/
  | initialisationEnd
  /-- TIME_COUNT_ADVANCE (R172): the end of a millisecond interval. -/
  | timeCountAdvance
  /-- RAMP_TICK (R44): an expiry of the 10 ms ramp timer. -/
  | rampTick
  /-- SILENCE_TIMER_EXPIRY (R12) of one pinion. -/
  | silenceTimerExpiry (pinion : Pinion)
  /-- STOP_TIMER_EXPIRY (R8). -/
  | stopTimerExpiry
  /-- POST_TRIP_TIMER_EXPIRY (R144). -/
  | postTripTimerExpiry
  /-- ROUND_START (R95): an expiry of the round timer. -/
  | roundStart
  /-- REPLY_WINDOW_CLOSE (R102): the window of one position closes; `words` are the words that the chain
  input saw in this round, in order of arrival. -/
  | replyWindowClose (position : Channel) (words : List ChainWord)
  /-- COMPUTATION_COMPLETION (R73) of the computation in flight on the RAU. -/
  | computationCompletion
  /-- LEVEL_COMPUTATION_COMPLETION (R124) of one channel. -/
  | levelComputationCompletion (channel : Channel)
  /-- FETCH_COMPLETION (R152) of one lane. -/
  | fetchCompletion (lane : Lane)
  deriving DecidableEq, Repr

end Sys2Proof
end

