-- ==== Sys2Proof/Machine/State.lean ====
section
/-! DEFINITION. The state of the DK426, block by block as chapter "Functional Blocks" of 00_scope.md names them, the
reset values each chapter states for its block, and the reasons a step could stop. -/

namespace Sys2Proof.Machine

/-- The spec names no fault that stops the machine: trips, refused requests and bad frames all lead to a next
state (R15, R163, R161). No step raises one. -/
inductive Fault
  deriving DecidableEq, Repr

/-- Why a step has no meaning. -/
inductive Refusal where
  /-- A command of the table without a meaning in `exec`; safe: the model stops where the part goes on. Every
  command has its meaning, so no arm of `exec` raises it. -/
  | notModelled (mnemonic : String)
  deriving DecidableEq, Repr

/-! ### Lanes (chapter 10) -/

/-- The roles of lanes (R158, Table 1). -/
inductive Role where
  | pinionA
  | pinionB
  | plant
  | monitor
  deriving DecidableEq, Repr

/-- The drive states (R1). -/
inductive DriveState where
  | halt
  | ready
  | run
  | inch
  | stopping
  | tripped
  deriving DecidableEq, Repr

/-- The reply statuses (chapter 10, Table 5). -/
inductive Status where
  | ok
  | accepted
  | badState
  | notPermitted
  | notReady
  | missingRole
  | range
  | busy
  | activeCause
  | filling
  | empty
  | noCursor
  | wait
  | gone
  | chainIncomplete
  | initializing
  | badCrc
  | badLength
  deriving DecidableEq, Repr

/-- The notice kinds (chapter 10, Table 8), most urgent first. -/
inductive Notice where
  | trip
  | recordClosed
  | vibState
  | limit
  | fetchDone
  | chainDone
  | refusal
  | state
  deriving DecidableEq, Repr

/-- The content of a reply holder (R160): reply kind, status, drive state and payload. -/
structure Reply where
  kind : Byte
  status : Status
  drive : DriveState
  payload : List Byte
  deriving DecidableEq, Repr

/-- The selection in progress on a lane. -/
inductive Selection where
  /-- Select is not active. -/
  | none
  /-- The lane shifts out its reply holder; the frame shifted in is checked at the end (R160, R161). -/
  | holder
  /-- The lane shifts out PENDING; nothing is taken at the end (R162). -/
  | pendingReply
  /-- A selection in progress at a reset, or begun while the reset pin is low: nothing is taken at its end
  (R164, R176). -/
  | dead
  deriving DecidableEq, Repr

/-- One record of a history ring or a trip record (chapter 8, Table 1). -/
structure Snapshot where
  seq : Word16
  iMeas : Word16
  iRef : Int
  vDem : Int
  limit : Nat
  satHi : Bool
  satLo : Bool
  limited : Bool
  gap : Bool
  post : Bool
  trigger : Bool
  abandoned : Bool
  demand : Bool
  drive : DriveState
  deriving DecidableEq, Repr

/-- The way a cursor steps (chapter 9, Table 1). -/
inductive Direction where
  | up
  | down
  deriving DecidableEq, Repr

/-- What a set cursor names (chapter 9, Table 1). -/
structure CursorPlace where
  slot : Fin 8
  trip : Nat
  pinion : Pinion
  index : Nat
  direction : Direction
  deriving DecidableEq, Repr

/-- A read cursor (R150). A fetch is in progress exactly while the cursor is FETCHING (R152). -/
inductive Cursor where
  | idle
  | fetching (place : CursorPlace)
  | fetched (place : CursorPlace) (record : Snapshot)
  | gone (place : CursorPlace)
  deriving DecidableEq, Repr

/-- One lane (R158, R160, R164, R167, R168, R150). -/
structure LaneState where
  role : Role
  conflict : Bool
  holder : Reply
  selection : Selection
  receiver : List Byte
  dataOut : List Byte
  notices : Byte
  mask : Byte
  cursor : Cursor
  deriving DecidableEq, Repr

/-- The entry of a full refusal capture (R165). -/
structure Capture where
  lane : Lane
  kind : Byte
  time : Word32
  deriving DecidableEq, Repr

/-! ### Run control (chapter 1) -/

/-- A latest-sample record (R10). -/
structure LatestSample where
  iMeas : Word16
  n : Word16
  ready : Bool
  fault : Bool
  deriving DecidableEq, Repr

/-- Run control: a running silence timer holds its period in ms (R11), a running stop timer its period in s (R6). -/
structure RunControl where
  drive : DriveState
  latest : Pair (Option LatestSample)
  silent : Pair Bool
  silenceTimer : Pair (Option Nat)
  ack : Pair Bool
  stopTimer : Option Nat
  deriving DecidableEq, Repr

/-! ### Share and limit unit (chapters 2 and 3) -/

/-- The share and limit unit (R23, R30, R38, R48). -/
structure ShareLimit where
  lead : Pinion
  offset : Int
  raw : Pair Int
  plant : Nat
  ceil : Pair Nat
  derate : Nat
  inch : Nat
  rampStep : Nat
  target : Pair Nat
  limit : Pair Nat
  iref : Pair Int
  limited : Pair Bool
  deriving DecidableEq, Repr

/-! ### Current regulators (chapter 4) -/

/-- A saturation sign (R57). -/
inductive Sat where
  | low
  | zero
  | high
  deriving DecidableEq, Repr

/-- A gain set (R58). -/
structure GainSet where
  kp : Nat
  ki : Nat
  feedforward : Bool
  uMin : Int
  uMax : Int
  number : Nat
  deriving DecidableEq, Repr

/-- The staged gain set with its pending marks (R61). -/
structure StagedSet where
  gains : GainSet
  mark : Pair Bool
  deriving DecidableEq, Repr

/-- The two regulator channels and what they share (R57, R58). -/
structure Regulators where
  acc : Pair Int
  sat : Pair Sat
  applied : Pair GainSet
  staged : Option StagedSet
  lastSet : Nat
  deriving DecidableEq, Repr

/-- What a computation's entry holds (R64). -/
structure Entry where
  pinion : Pinion
  iMeas : Word16
  n : Word16
  counter : Byte
  demand : Bool
  demandIgnored : Bool
  drive : DriveState
  deriving DecidableEq, Repr

/-- The computation in flight: its entry, the values read at its start (R72), and whether it took up a staged
set there (R74). -/
structure Computation where
  entry : Entry
  iRef : Int
  acc : Int
  sat : Sat
  gains : GainSet
  newGains : Bool
  deriving DecidableEq, Repr

/-- The regulator arithmetic unit (R70, R71). -/
structure Rau where
  inFlight : Option Computation
  waiting : List Entry
  deriving DecidableEq, Repr

/-! ### Drive watch unit (chapter 5) -/

/-- The ten watch settings (chapter 5, Table 3). -/
structure WatchSettings where
  oc : Nat
  q : Nat
  decay : Nat
  imbalance : Nat
  shift : Nat
  persistence : Nat
  zeroBand : Nat
  zeroSpeed : Nat
  stopTimeout : Nat
  silenceCode : Nat
  deriving DecidableEq, Repr

/-- The drive watch unit (chapter 5, Table 1). -/
structure DriveWatch where
  ol : Pair Nat
  filter : Int
  runCount : Nat
  watch : WatchSettings
  deriving DecidableEq, Repr

/-! ### Sensor chain controller (chapter 6) -/

/-- The node states (R106). -/
inductive NodeState where
  | absent
  | searching
  | locked
  | lost
  deriving DecidableEq, Repr

/-- A node table entry (chapter 6, Table 4); its nominal position is `Config.nominal`. -/
structure NodeEntry where
  state : NodeState
  identity : Option (BitVec 10)
  expected : Nat
  miss : Nat
  parity : Nat
  misalign : Nat
  deriving DecidableEq, Repr

/-- The round rate: code 0, 1, 2 for 1024, 2048, 4096 rounds per second (R113). -/
inductive RoundRate where
  | r1024
  | r2048
  | r4096
  deriving DecidableEq, Repr

/-- Where a running discovery stands (R109, R110): before or after the poll of its clear round, or searching a
position with this many search rounds made there. -/
inductive DiscoveryStep where
  | clear (sent : Bool)
  | search (position : Fin 8) (rounds : Nat)
  deriving DecidableEq, Repr

/-- A running discovery (R108 to R111). -/
structure Discovery where
  count : Nat
  step : DiscoveryStep
  found : Nat
  deriving DecidableEq, Repr

/-- The last result of a discovery (R114). -/
inductive LastResult where
  | none
  | running
  | foundOf (found count : Nat)
  deriving DecidableEq, Repr

/-- A round in progress (R97): the polled positions whose reply windows are still open, and the search position
while its window is open. -/
structure Round where
  polled : List (Fin 8)
  search : Option (Fin 8)
  deriving DecidableEq, Repr

/-- The sensor chain controller (R95, R96, R106, R114). -/
structure SensorChain where
  nodes : Eight NodeEntry
  rate : RoundRate
  timerRate : RoundRate
  discovery : Option Discovery
  lastResult : LastResult
  poll : Option (BitVec 11)
  lastSpan : Option (Fin 8)
  round : Option Round
  deriving DecidableEq, Repr

/-! ### Vibration level unit (chapter 7) -/

/-- The group of a channel (conventions; R117). -/
inductive Group where
  | a
  | b
  | common
  deriving DecidableEq, Repr

/-- The channel states (R126). -/
inductive ChannelState where
  | unknown
  | normal
  | alert
  | danger
  deriving DecidableEq, Repr

/-- The configuration part of a channel entry (R116). -/
structure ChannelConfig where
  enabled : Bool
  group : Group
  alert : Nat
  danger : Nat
  hysteresis : Nat
  tripOnLoss : Bool
  deriving DecidableEq, Repr

/-- The run counters (R125). -/
structure RunCounters where
  a : Nat
  g : Nat
  c : Nat
  cd : Nat
  deriving DecidableEq, Repr

/-- What a level computation was handed (R122); `code` is the window code of its own W. -/
structure LevelComputation where
  s1 : Int
  s2 : Nat
  subs : Nat
  code : Nat
  deriving DecidableEq, Repr

/-- A level record (R124). -/
structure LevelRecord where
  rms : Nat
  seq : Word16
  suspect : Bool
  time : Word32
  deriving DecidableEq, Repr

/-- A channel table entry (chapter 7, Table 1). -/
structure ChannelEntry where
  config : ChannelConfig
  s1 : Int
  s2 : Nat
  count : Nat
  subs : Nat
  held : Int
  state : ChannelState
  runs : RunCounters
  suspectRun : Nat
  computation : Option LevelComputation
  seq : Word16
  record : Option LevelRecord
  deriving DecidableEq, Repr

/-- The vibration level unit (R116, R119). -/
structure Vibration where
  channels : Eight ChannelEntry
  windowCode : Nat
  na : Nat
  nd : Nat
  nc : Nat
  deriving DecidableEq, Repr

/-! ### Trip recorder (chapter 8) -/

/-- A trip cause, kind and source together (R137). -/
inductive Cause where
  | overcurrent (k : Pinion)
  | overload (k : Pinion)
  | imbalance
  | vibDanger (c : Channel)
  | chainLoss (c : Channel)
  | laneSilent (k : Pinion)
  | bridgeFault (k : Pinion)
  | bridgeDrop (k : Pinion)
  | stopTimeout
  | commanded (lane : Lane)
  deriving DecidableEq, Repr

/-- The slot states (chapter 8, Table 3). -/
inductive SlotState where
  | free
  | filling
  | closed
  | read
  deriving DecidableEq, Repr

/-- A trip record (section 8.3). -/
structure TripRecord where
  number : Nat
  time : Word32
  before : DriveState
  cause : Cause
  value : Nat
  limit : Nat
  later : List Cause
  more : Bool
  limits : Pair Nat
  channels : Eight ChannelState
  cutShort : Bool
  pre : Pair (List Snapshot)
  post : Pair (List Snapshot)
  deriving DecidableEq, Repr

/-- One slot of the trip table (R138). -/
structure Slot where
  state : SlotState
  record : TripRecord
  deriving DecidableEq, Repr

/-- What the overflow summary holds of a trip (R141). -/
structure Overflow where
  number : Nat
  time : Word32
  cause : Cause
  deriving DecidableEq, Repr

/-- The trip recorder (R133 to R141). -/
structure Recorder where
  rings : Pair (List Snapshot)
  nextSeq : Pair Word16
  prevCounter : Pair (Option Byte)
  slots : Eight Slot
  tripCount : Nat
  current : Option (Fin 8)
  overflow : Option Overflow
  unrecorded : Nat
  postTimer : Bool
  deriving DecidableEq, Repr

/-! ### Timebase (chapter 11) -/

/-- The reset cause set (R174). -/
structure ResetCauses where
  powerOn : Bool
  resetPin : Bool
  plantReset : Bool
  deriving DecidableEq, Repr

/-- Whether the part is held by the reset pin, initialises, or works (R176). -/
inductive Phase where
  | held
  | initialising
  | working
  deriving DecidableEq, Repr

/-- The timebase (R172, R174, R176). -/
structure Timebase where
  time : Word32
  causes : ResetCauses
  phase : Phase
  deriving DecidableEq, Repr

/-! ### The whole part -/

/-- The state of the DK426 with the queue of commands that wait for it. -/
structure State where
  pending : List Instr
  openReads : Nat
  lanes : Four LaneState
  capture : Option Capture
  rc : RunControl
  slu : ShareLimit
  crg : Regulators
  rau : Rau
  dwu : DriveWatch
  scc : SensorChain
  vlu : Vibration
  trc : Recorder
  tbu : Timebase
  deriving DecidableEq, Repr

/-! ### Reset values, block by block -/

/-- The reset reply (R164): kind NOP, OK, HALT, no payload. -/
def Reply.reset : Reply := ⟨0x00, .ok, .halt, []⟩

/-- A lane after a reset, before any selection (R164, R169, R150), with the role and flag settled for it. -/
def LaneState.reset (role : Role) (conflict : Bool) : LaneState where
  role := role
  conflict := conflict
  holder := .reset
  selection := .none
  receiver := []
  dataOut := []
  notices := 0
  mask := 0
  cursor := .idle

/-- Run control after every reset (R22). -/
def RunControl.reset : RunControl where
  drive := .halt
  latest := .both none
  silent := .both true
  silenceTimer := .both none
  ack := .both false
  stopTimer := none

/-- The split and limit chain after every reset (R36, R55). -/
def ShareLimit.reset : ShareLimit where
  lead := .a
  offset := 0
  raw := .both 0
  plant := 16384
  ceil := .both 24576
  derate := 13107
  inch := 4915
  rampStep := 164
  target := .both 0
  limit := .both 0
  iref := .both 0
  limited := .both false

/-- The default gain set (R58). -/
def GainSet.default : GainSet := ⟨4096, 1024, true, -29491, 29491, 0⟩

/-- The regulators after every reset (R78). -/
def Regulators.reset : Regulators where
  acc := .both 0
  sat := .both .zero
  applied := .both .default
  staged := none
  lastSet := 0

/-- The RAU after every reset (R78). -/
def Rau.reset : Rau := ⟨none, []⟩

/-- The default watch settings (chapter 5, Table 3). -/
def WatchSettings.default : WatchSettings where
  oc := 29491
  q := 2000000
  decay := 2000
  imbalance := 1638
  shift := 6
  persistence := 32
  zeroBand := 328
  zeroSpeed := 164
  stopTimeout := 120
  silenceCode := 3

/-- The drive watch after every reset (R94). -/
def DriveWatch.reset : DriveWatch := ⟨.both 0, 0, 0, .default⟩

/-- The node entry of position c as a reset or the acceptance of DISCOVER leaves it (R115, R109). -/
def NodeEntry.reset (c : Fin 8) : NodeEntry := ⟨.absent, none, Config.nominal c, 0, 0, 0⟩

/-- The node table of R115. -/
def NodeEntry.resetTable : Eight NodeEntry := (Eight.const ()).map fun c _ => .reset c

/-- The sensor chain after every reset (R115). -/
def SensorChain.reset : SensorChain where
  nodes := NodeEntry.resetTable
  rate := .r2048
  timerRate := .r2048
  discovery := none
  lastResult := .none
  poll := none
  lastSpan := none
  round := none

/-- The configuration of a channel after power-on (chapter 7, Table 1). -/
def ChannelConfig.default : ChannelConfig := ⟨false, .common, 4000, 8000, 400, false⟩

/-- Run counters at 0. -/
def RunCounters.zero : RunCounters := ⟨0, 0, 0, 0⟩

/-- A channel entry after a reset that leaves it this configuration (R132). -/
def ChannelEntry.reset (config : ChannelConfig) : ChannelEntry where
  config := config
  s1 := 0
  s2 := 0
  count := 0
  subs := 0
  held := 0
  state := .unknown
  runs := .zero
  suspectRun := 0
  computation := none
  seq := 0
  record := none

/-- The vibration level unit after a reset that leaves these configurations (R132, R119). -/
def Vibration.reset (configs : Eight ChannelConfig) : Vibration where
  channels := configs.map fun _ g => .reset g
  windowCode := 2
  na := 3
  nd := 2
  nc := 5

/-- DESIGN CHOICE (log entry 8): what stands in a slot that no trip has taken since power-on. No command reports it,
since such a slot is FREE (R145, R146, R151). -/
def TripRecord.blank : TripRecord where
  number := 0
  time := 0
  before := .halt
  cause := .imbalance
  value := 0
  limit := 0
  later := []
  more := false
  limits := .both 0
  channels := .const .unknown
  cutShort := false
  pre := .both []
  post := .both []

/-- The trip recorder after power-on (R148, R136). -/
def Recorder.powerOn : Recorder where
  rings := .both []
  nextSeq := .both 0
  prevCounter := .both none
  slots := .const ⟨.free, .blank⟩
  tripCount := 0
  current := none
  overflow := none
  unrecorded := 0
  postTimer := false

/-- The part right after power-on: every block at its reset value and the initialisation running (R174, R176).
DESIGN CHOICE (log entry 6): the straps read 0, 1, 2, 3, so lanes 0..3 are PINION_A, PINION_B, PLANT, MONITOR. -/
def State.reset : State where
  pending := []
  openReads := 0
  lanes := ⟨.reset .pinionA false, .reset .pinionB false, .reset .plant false, .reset .monitor false⟩
  capture := none
  rc := .reset
  slu := .reset
  crg := .reset
  rau := .reset
  dwu := .reset
  scc := .reset
  vlu := .reset (.const .default)
  trc := .powerOn
  tbu := ⟨0, ⟨true, false, false⟩, .initialising⟩

end Sys2Proof.Machine
end

