-- ==== Sys2Proof/Machine/Frames.lean ====
section
/-! DEFINITION. Request and reply frames: kinds, payload lengths and permissions (chapter 10, Table 4), the codes of
R159 and Table 5, the frame layouts of Tables 2 and 3, the request payloads of Table 6, and the frame checks of
R161. -/

namespace Sys2Proof.Machine

/-- The requests of chapter 10, Table 4. -/
inductive RequestKind where
  | nop
  | readStatus
  | readIdent
  | readLimits
  | readChannel
  | readNode
  | readTripSummary
  | setCursor
  | readNext
  | ackNotice
  | setMask
  | sample
  | ackTrip
  | trip
  | arm
  | disarm
  | start
  | inch
  | stop
  | clearTrip
  | setLimits
  | setGains
  | setShare
  | setWatch
  | setChannel
  | setChain
  | discover
  | release
  | setTime
  | clearCapture
  | clearCauses
  | reset
  deriving DecidableEq, Repr

/-- The kind byte of a request (Table 4). -/
def RequestKind.code : RequestKind → Byte
  | .nop => 0x00
  | .readStatus => 0x01
  | .readIdent => 0x02
  | .readLimits => 0x03
  | .readChannel => 0x04
  | .readNode => 0x05
  | .readTripSummary => 0x06
  | .setCursor => 0x07
  | .readNext => 0x08
  | .ackNotice => 0x09
  | .setMask => 0x0A
  | .sample => 0x10
  | .ackTrip => 0x11
  | .trip => 0x12
  | .arm => 0x20
  | .disarm => 0x21
  | .start => 0x22
  | .inch => 0x23
  | .stop => 0x24
  | .clearTrip => 0x25
  | .setLimits => 0x26
  | .setGains => 0x27
  | .setShare => 0x28
  | .setWatch => 0x29
  | .setChannel => 0x2A
  | .setChain => 0x2B
  | .discover => 0x2C
  | .release => 0x2D
  | .setTime => 0x2E
  | .clearCapture => 0x2F
  | .clearCauses => 0x30
  | .reset => 0x31

/-- Every request, in the order of Table 4. -/
def requestKinds : List RequestKind :=
  [.nop, .readStatus, .readIdent, .readLimits, .readChannel, .readNode, .readTripSummary, .setCursor,
   .readNext, .ackNotice, .setMask, .sample, .ackTrip, .trip, .arm, .disarm, .start, .inch, .stop, .clearTrip,
   .setLimits, .setGains, .setShare, .setWatch, .setChannel, .setChain, .discover, .release, .setTime,
   .clearCapture, .clearCauses, .reset]

/-- The request a kind byte names, if Table 4 holds it. -/
def kindOfCode (b : Byte) : Option RequestKind := requestKinds.find? fun k => k.code == b

/-- The payload lengths of a request (Table 4). -/
def RequestKind.lengths : RequestKind → List Nat
  | .readLimits => [0, 1]
  | .readChannel | .readNode | .ackNotice | .setMask | .discover | .release => [1]
  | .readTripSummary => [1, 2]
  | .setCursor | .setTime => [4]
  | .sample => [6, 8]
  | .setLimits => [12]
  | .setGains => [9]
  | .setShare => [3]
  | .setWatch => [19]
  | .setChannel => [10]
  | .setChain => [5]
  | .nop | .readStatus | .readIdent | .readNext | .ackTrip | .trip | .arm | .disarm | .start | .inch | .stop
  | .clearTrip | .clearCapture | .clearCauses | .reset => [0]

/-- Whether Table 4 allows a request to a role. -/
def RequestKind.permitted : RequestKind → Role → Bool
  | .nop, _ | .readStatus, _ | .readIdent, _ | .readLimits, _ | .readChannel, _ | .readNode, _
  | .readTripSummary, _ | .setCursor, _ | .readNext, _ | .ackNotice, _ | .setMask, _ => true
  | .sample, .pinionA | .sample, .pinionB | .ackTrip, .pinionA | .ackTrip, .pinionB => true
  | .sample, _ | .ackTrip, _ => false
  | .trip, .monitor => false
  | .trip, _ => true
  | .arm, r | .disarm, r | .start, r | .inch, r | .stop, r | .clearTrip, r | .setLimits, r | .setGains, r
  | .setShare, r | .setWatch, r | .setChannel, r | .setChain, r | .discover, r | .release, r | .setTime, r
  | .clearCapture, r | .clearCauses, r | .reset, r => r == .plant

/-- Whether a request is answered normally during the initialisation (R163, R177). -/
def RequestKind.servedInInit : RequestKind → Bool
  | .readStatus | .readIdent => true
  | _ => false

/-- The pinion of a pinion lane. -/
def Role.pinion? : Role → Option Pinion
  | .pinionA => some .a
  | .pinionB => some .b
  | .plant | .monitor => none

/-- The role of pinion k's lane (R158). -/
def pinionRole : Pinion → Role
  | .a => .pinionA
  | .b => .pinionB

/-! ### Codes (Tables 1, 2 and 5; R159) -/

def Role.code : Role → Byte
  | .pinionA => 0
  | .pinionB => 1
  | .plant => 2
  | .monitor => 3

def DriveState.code : DriveState → Byte
  | .halt => 0
  | .ready => 1
  | .run => 2
  | .inch => 3
  | .stopping => 4
  | .tripped => 5

def Status.code : Status → Byte
  | .ok => 0
  | .accepted => 1
  | .badState => 2
  | .notPermitted => 3
  | .notReady => 4
  | .missingRole => 5
  | .range => 6
  | .busy => 7
  | .activeCause => 8
  | .filling => 9
  | .empty => 10
  | .noCursor => 11
  | .wait => 12
  | .gone => 13
  | .chainIncomplete => 14
  | .initializing => 15
  | .badCrc => 16
  | .badLength => 17

def Notice.number : Notice → Nat
  | .trip => 0
  | .recordClosed => 1
  | .vibState => 2
  | .limit => 3
  | .fetchDone => 4
  | .chainDone => 5
  | .refusal => 6
  | .state => 7

def pinionCode : Pinion → Byte
  | .a => 0
  | .b => 1

def Group.code : Group → Byte
  | .a => 0
  | .b => 1
  | .common => 2

def ChannelState.code : ChannelState → Byte
  | .unknown => 0
  | .normal => 1
  | .alert => 2
  | .danger => 3

def NodeState.code : NodeState → Byte
  | .absent => 0
  | .searching => 1
  | .locked => 2
  | .lost => 3

def SlotState.code : SlotState → Byte
  | .free => 0
  | .filling => 1
  | .closed => 2
  | .read => 3

def Direction.code : Direction → Byte
  | .up => 0
  | .down => 1

def RoundRate.code : RoundRate → Byte
  | .r1024 => 0
  | .r2048 => 1
  | .r4096 => 2

/-- A trip cause as two bytes: kind number (chapter 8, Table 2), then source, 255 for none (R159). -/
def Cause.bytes : Cause → List Byte
  | .overcurrent k => [0, pinionCode k]
  | .overload k => [1, pinionCode k]
  | .imbalance => [2, 255]
  | .vibDanger c => [3, byteOf c.val]
  | .chainLoss c => [4, byteOf c.val]
  | .laneSilent k => [5, pinionCode k]
  | .bridgeFault k => [6, pinionCode k]
  | .bridgeDrop k => [7, pinionCode k]
  | .stopTimeout => [8, 255]
  | .commanded lane => [9, byteOf lane.val]

/-- The reply kind of a PENDING reply (Table 2). -/
def pendingKind : Byte := 0xFE

/-- The reply kind of a BAD_FRAME reply (Table 2). -/
def badFrameKind : Byte := 0xFF

/-! ### Frames (Table 2) -/

/-- A request frame: kind, payload length, payload, CRC-8. -/
def requestFrame (kind : RequestKind) (payload : List Byte) : List Byte :=
  [kind.code, byteOf payload.length] ++ payload ++ [crc8 ([kind.code, byteOf payload.length] ++ payload)]

/-- A reply frame with its top-notice byte filled in: kind, status, top notice, drive state, payload length, payload,
CRC-8. -/
def replyFrame (r : Reply) (top : Byte) : List Byte :=
  let head := [r.kind, r.status.code, top, r.drive.code, byteOf r.payload.length] ++ r.payload
  head ++ [crc8 head]

/-- The frame checks of R161 in their order: the request kind and payload of a frame that passes them, or the status
of the BAD_FRAME reply. Bytes after the CRC byte are ignored (Table 3, note 2). -/
def checkFrame (bytes : List Byte) : Except Status (RequestKind × List Byte) :=
  match bytes with
  | code :: n :: rest =>
    if 24 < n.toNat then .error .badLength
    else if rest.length < n.toNat + 1 then .error .badLength
    else if rest[n.toNat]? ≠ some (crc8 (code :: n :: rest.take n.toNat)) then .error .badCrc
    else
      match kindOfCode code with
      | none => .error .badLength
      | some kind =>
        if kind.lengths.contains n.toNat then .ok (kind, rest.take n.toNat) else .error .badLength
  | _ => .error .badLength

/-! ### Request payloads (Table 6) -/

def optionalByte : Option Byte → List Byte
  | none => []
  | some b => [b]

def samplePayload (iMeas n : Word16) (counter bridge : Byte) (demand : Option Word16) : List Byte :=
  be16 iMeas ++ be16 n ++ [counter, bridge] ++
    (match demand with
     | none => []
     | some t => be16 t)

def limitsPayload (plant ceilA ceilB derate inchCeiling rampStep : Word16) : List Byte :=
  be16 plant ++ be16 ceilA ++ be16 ceilB ++ be16 derate ++ be16 inchCeiling ++ be16 rampStep

def gainsPayload (kp ki : Word16) (feedforward : Byte) (uMin uMax : Word16) : List Byte :=
  be16 kp ++ be16 ki ++ [feedforward] ++ be16 uMin ++ be16 uMax

def watchPayload (oc : Word16) (q : Word32) (decay imbalance : Word16) (shift persistence : Byte)
    (zeroBand zeroSpeed stopTimeout : Word16) (silenceCode : Byte) : List Byte :=
  be16 oc ++ be32 q ++ be16 decay ++ be16 imbalance ++ [shift, persistence] ++ be16 zeroBand ++
    be16 zeroSpeed ++ be16 stopTimeout ++ [silenceCode]

def channelPayload (channel enabled group : Byte) (alert danger hysteresis : Word16) (tripOnLoss : Byte) :
    List Byte :=
  [channel, enabled, group] ++ be16 alert ++ be16 danger ++ be16 hysteresis ++ [tripOnLoss]

end Sys2Proof.Machine
end

