-- ==== Sys2Proof/Decode.lean ====
section
/-! DEFINITION. From bytes to commands and back. The opcode table gives no row any bits, so no word spells a command.
A request is spelled by the bytes of its frame: `decodeFrame` reads them with the checks of R161 and the layouts of
chapter 10, Table 6, and `encodeFrame` writes them. -/

namespace Sys2Proof

open Machine

/-- The command that a word spells by the table's bits: the table gives none (log entry 28). -/
def decodeTableWord (_nbits _w : Nat) : Option Instr := none

/-- A request's fields from its kind and its payload bytes (Table 6). The lane and, for RESET, the strap codes come
from the pins and not from the frame. -/
def decodePayload (lane : Lane) (straps : Straps) : RequestKind → List Byte → Option Instr
  | .nop, [] => some (.nop lane)
  | .readStatus, [] => some (.readStatus lane)
  | .readIdent, [] => some (.readIdent lane)
  | .readLimits, [] => some (.readLimits lane none)
  | .readLimits, [page] => some (.readLimits lane (some page))
  | .readChannel, [channel] => some (.readChannel lane channel)
  | .readNode, [position] => some (.readNode lane position)
  | .readTripSummary, [slot] => some (.readTripSummary lane slot none)
  | .readTripSummary, [slot, page] => some (.readTripSummary lane slot (some page))
  | .setCursor, [slot, pinion, index, direction] => some (.setCursor lane slot pinion index direction)
  | .readNext, [] => some (.readNext lane)
  | .ackNotice, [kind] => some (.ackNotice lane kind)
  | .setMask, [mask] => some (.setMask lane mask)
  | .sample, [i1, i0, n1, n0, counter, bridge] => some (.sample lane (i1 ++ i0) (n1 ++ n0) counter bridge none)
  | .sample, [i1, i0, n1, n0, counter, bridge, t1, t0] =>
    some (.sample lane (i1 ++ i0) (n1 ++ n0) counter bridge (some (t1 ++ t0)))
  | .ackTrip, [] => some (.ackTrip lane)
  | .trip, [] => some (.trip lane)
  | .arm, [] => some (.arm lane)
  | .disarm, [] => some (.disarm lane)
  | .start, [] => some (.start lane)
  | .inch, [] => some (.inch lane)
  | .stop, [] => some (.stop lane)
  | .clearTrip, [] => some (.clearTrip lane)
  | .setLimits, [p1, p0, a1, a0, b1, b0, d1, d0, i1, i0, r1, r0] =>
    some (.setLimits lane (p1 ++ p0) (a1 ++ a0) (b1 ++ b0) (d1 ++ d0) (i1 ++ i0) (r1 ++ r0))
  | .setGains, [p1, p0, i1, i0, feedforward, m1, m0, x1, x0] =>
    some (.setGains lane (p1 ++ p0) (i1 ++ i0) feedforward (m1 ++ m0) (x1 ++ x0))
  | .setShare, [lead, o1, o0] => some (.setShare lane lead (o1 ++ o0))
  | .setWatch, [o1, o0, q3, q2, q1, q0, d1, d0, i1, i0, shift, persistence, z1, z0, s1, s0, t1, t0, silence] =>
    some (.setWatch lane (o1 ++ o0) (q3 ++ q2 ++ q1 ++ q0) (d1 ++ d0) (i1 ++ i0) shift persistence (z1 ++ z0)
      (s1 ++ s0) (t1 ++ t0) silence)
  | .setChannel, [channel, enabled, group, a1, a0, d1, d0, h1, h0, tripOnLoss] =>
    some (.setChannel lane channel enabled group (a1 ++ a0) (d1 ++ d0) (h1 ++ h0) tripOnLoss)
  | .setChain, [rate, window, na, nd, nc] => some (.setChain lane rate window na nd nc)
  | .discover, [count] => some (.discover lane count)
  | .release, [slot] => some (.release lane slot)
  | .setTime, [t3, t2, t1, t0] => some (.setTime lane (t3 ++ t2 ++ t1 ++ t0))
  | .clearCapture, [] => some (.clearCapture lane)
  | .clearCauses, [] => some (.clearCauses lane)
  | .reset, [] => some (.reset lane straps)
  | _, _ => none

/-- The request that the bytes shifted in during a selection spell, or the status of the BAD_FRAME reply (R161). -/
def decodeFrame (lane : Lane) (straps : Straps) (bytes : List Byte) : Except Status Instr :=
  match checkFrame bytes with
  | .error status => .error status
  | .ok (kind, payload) =>
    match decodePayload lane straps kind payload with
    | some i => .ok i
    | none => .error .badLength

/-- The kind and payload of a request; none for a command that is no request. -/
def encodePayload : Instr → Option (RequestKind × List Byte)
  | .nop _ => some (.nop, [])
  | .readStatus _ => some (.readStatus, [])
  | .readIdent _ => some (.readIdent, [])
  | .readLimits _ page => some (.readLimits, optionalByte page)
  | .readChannel _ channel => some (.readChannel, [channel])
  | .readNode _ position => some (.readNode, [position])
  | .readTripSummary _ slot page => some (.readTripSummary, slot :: optionalByte page)
  | .setCursor _ slot pinion index direction => some (.setCursor, [slot, pinion, index, direction])
  | .readNext _ => some (.readNext, [])
  | .ackNotice _ kind => some (.ackNotice, [kind])
  | .setMask _ mask => some (.setMask, [mask])
  | .sample _ iMeas n counter bridge demand => some (.sample, samplePayload iMeas n counter bridge demand)
  | .ackTrip _ => some (.ackTrip, [])
  | .trip _ => some (.trip, [])
  | .arm _ => some (.arm, [])
  | .disarm _ => some (.disarm, [])
  | .start _ => some (.start, [])
  | .inch _ => some (.inch, [])
  | .stop _ => some (.stop, [])
  | .clearTrip _ => some (.clearTrip, [])
  | .setLimits _ p a b d i r => some (.setLimits, limitsPayload p a b d i r)
  | .setGains _ kp ki f m x => some (.setGains, gainsPayload kp ki f m x)
  | .setShare _ lead offset => some (.setShare, lead :: be16 offset)
  | .setWatch _ oc q d i s p zb zs st sc => some (.setWatch, watchPayload oc q d i s p zb zs st sc)
  | .setChannel _ c e g a d h t => some (.setChannel, channelPayload c e g a d h t)
  | .setChain _ rate window na nd nc => some (.setChain, [rate, window, na, nd, nc])
  | .discover _ count => some (.discover, [count])
  | .release _ slot => some (.release, [slot])
  | .setTime _ time => some (.setTime, be32 time)
  | .clearCapture _ => some (.clearCapture, [])
  | .clearCauses _ => some (.clearCauses, [])
  | .reset _ _ => some (.reset, [])
  | .selectionStart _ | .badFrame _ _ | .pendingSelection _ _ | .powerOn _ _ | .resetPin | .resetPinRelease _
  | .initialisationEnd | .timeCountAdvance | .rampTick | .silenceTimerExpiry _ | .stopTimerExpiry
  | .postTripTimerExpiry | .roundStart | .replyWindowClose _ _ | .computationCompletion
  | .levelComputationCompletion _ | .fetchCompletion _ => none

/-- The frame of a request (Table 2). -/
def encodeFrame (i : Instr) : Option (List Byte) := (encodePayload i).map fun p => requestFrame p.1 p.2

/-- The lane that carries a request. -/
def requestLane : Instr → Option Lane
  | .nop lane | .readStatus lane | .readIdent lane | .readLimits lane _ | .readChannel lane _
  | .readNode lane _ | .readTripSummary lane _ _ | .setCursor lane _ _ _ _ | .readNext lane
  | .ackNotice lane _ | .setMask lane _ | .sample lane _ _ _ _ _ | .ackTrip lane | .trip lane | .arm lane
  | .disarm lane | .start lane | .inch lane | .stop lane | .clearTrip lane | .setLimits lane _ _ _ _ _ _
  | .setGains lane _ _ _ _ _ | .setShare lane _ _ | .setWatch lane _ _ _ _ _ _ _ _ _ _
  | .setChannel lane _ _ _ _ _ _ _ | .setChain lane _ _ _ _ _ | .discover lane _ | .release lane _
  | .setTime lane _ | .clearCapture lane | .clearCauses lane | .reset lane _ => some lane
  | .selectionStart _ | .badFrame _ _ | .pendingSelection _ _ | .powerOn _ _ | .resetPin | .resetPinRelease _
  | .initialisationEnd | .timeCountAdvance | .rampTick | .silenceTimerExpiry _ | .stopTimerExpiry
  | .postTripTimerExpiry | .roundStart | .replyWindowClose _ _ | .computationCompletion
  | .levelComputationCompletion _ | .fetchCompletion _ => none

/-- The strap codes a RESET request reads. -/
def requestStraps (default : Straps) : Instr → Straps
  | .reset _ straps => straps
  | _ => default

end Sys2Proof
end

