-- ==== Sys2Proof/Machine/Ops.lean ====
section
/-! DEFINITION. The named operations over the lanes: block updates, notices and the attention line (R167, R168),
selections (R160, R162), replies (R163), the refusal capture (R165), and the judging of a request (R163, R177). -/

namespace Sys2Proof.Machine

/-! ### Updates of one block -/

def State.updLanes (s : State) (f : Four LaneState → Four LaneState) : State := { s with lanes := f s.lanes }
def State.setCapture (s : State) (c : Option Capture) : State := { s with capture := c }
def State.updRc (s : State) (f : RunControl → RunControl) : State := { s with rc := f s.rc }
def State.updSlu (s : State) (f : ShareLimit → ShareLimit) : State := { s with slu := f s.slu }
def State.updCrg (s : State) (f : Regulators → Regulators) : State := { s with crg := f s.crg }
def State.updRau (s : State) (f : Rau → Rau) : State := { s with rau := f s.rau }
def State.updDwu (s : State) (f : DriveWatch → DriveWatch) : State := { s with dwu := f s.dwu }
def State.updScc (s : State) (f : SensorChain → SensorChain) : State := { s with scc := f s.scc }
def State.updVlu (s : State) (f : Vibration → Vibration) : State := { s with vlu := f s.vlu }
def State.updTrc (s : State) (f : Recorder → Recorder) : State := { s with trc := f s.trc }
def State.updTbu (s : State) (f : Timebase → Timebase) : State := { s with tbu := f s.tbu }

/-- Advance the counter of free values (log entry 11). -/
def State.nextOpenRead (s : State) : State := { s with openReads := s.openReads + 1 }

/-- Change one lane. -/
def State.updLane (s : State) (lane : Lane) (f : LaneState → LaneState) : State :=
  s.updLanes fun t => t.set lane (f (t.get lane))

/-- Change every lane that `p` picks. -/
def State.updLanesWhere (s : State) (p : LaneState → Bool) (f : LaneState → LaneState) : State :=
  s.updLanes fun t => t.map fun _ l => if p l then f l else l

/-- A lane of this role exists (R3, R158). -/
def State.hasRole (s : State) (r : Role) : Bool := s.lanes.any fun l => l.role == r

/-! ### Notices (R167, R168) -/

/-- The notice kinds, most urgent first. -/
def noticeKinds : List Notice := [.trip, .recordClosed, .vibState, .limit, .fetchDone, .chainDone, .refusal, .state]

/-- The bit of a kind in a notice set or mask (R167). -/
def Notice.bit (k : Notice) : Byte := 1 <<< k.number

/-- The kind is in the lane's notice set. -/
def LaneState.has (l : LaneState) (k : Notice) : Bool := l.notices.getLsbD k.number

/-- A kind joins the lane's set (R167). -/
def LaneState.raise (k : Notice) (l : LaneState) : LaneState := { l with notices := l.notices ||| k.bit }

/-- A kind leaves the lane's set (R167). -/
def LaneState.acknowledge (k : Notice) (l : LaneState) : LaneState := { l with notices := l.notices &&& ~~~k.bit }

/-- The top notice: the lowest-numbered kind in the set and not masked, or 15 (R168). -/
def LaneState.topNotice (l : LaneState) : Byte :=
  match noticeKinds.find? fun k => l.has k && !l.mask.getLsbD k.number with
  | some k => byteOf k.number
  | none => 15

/-- The attention line: asserted while the set holds an unmasked kind (R168). -/
def LaneState.attention (l : LaneState) : Bool := (l.notices &&& ~~~l.mask) != 0

/-- Raise a notice on every lane. -/
def State.raiseAll (s : State) (k : Notice) : State := s.updLanesWhere (fun _ => true) (·.raise k)

/-- Raise a notice on the PLANT lane and every MONITOR lane (Table 8). -/
def State.raiseWatchers (s : State) (k : Notice) : State :=
  s.updLanesWhere (fun l => l.role == .plant || l.role == .monitor) (·.raise k)

/-- Raise a notice on the PLANT lane. -/
def State.raisePlant (s : State) (k : Notice) : State := s.updLanesWhere (fun l => l.role == .plant) (·.raise k)

/-- Raise a notice on pinion k's lane; nowhere if no lane holds the role (R51). -/
def State.raisePinion (s : State) (p : Pinion) (k : Notice) : State :=
  s.updLanesWhere (fun l => l.role == pinionRole p) (·.raise k)

/-! ### Replies (R163) -/

/-- Write a lane's reply holder: the request's kind, a status, the drive state as it stands, a payload. -/
def State.answer (s : State) (lane : Lane) (kind : RequestKind) (status : Status) (payload : List Byte) : State :=
  s.updLane lane fun l => { l with holder := ⟨kind.code, status, s.rc.drive, payload⟩ }

/-- Write a SAMPLE reply into the reply holder of pinion k's lane (R73, R75). -/
def State.answerPinion (s : State) (k : Pinion) (payload : List Byte) : State :=
  s.updLanesWhere (fun l => l.role == pinionRole k) fun l =>
    { l with holder := ⟨RequestKind.sample.code, .ok, s.rc.drive, payload⟩ }

/-! ### Selections (R160, R162) -/

/-- The RAU holds a computation of channel k (R64, R70). -/
def Rau.holds (r : Rau) (k : Pinion) : Bool :=
  (match r.inFlight with
   | some c => c.entry.pinion == k
   | none => false) || r.waiting.any fun e => e.pinion == k

/-- A lane is pending while the RAU holds the computation of its SAMPLE (R162). -/
def State.lanePending (s : State) (lane : Lane) : Bool :=
  match (s.lanes.get lane).role.pinion? with
  | some k => s.rau.holds k
  | none => false

/-- The reply a selection of this lane shifts out, but for the top notice (R160, R162). -/
def State.replyOut (s : State) (lane : Lane) : Reply :=
  if s.lanePending lane then ⟨pendingKind, .busy, s.rc.drive, []⟩ else (s.lanes.get lane).holder

/-- What a selection that starts now will be (R160, R162, R176). -/
def State.selectionKind (s : State) (lane : Lane) : Selection :=
  if s.tbu.phase = .held then .dead else if s.lanePending lane then .pendingReply else .holder

/-- The start of a selection: the frame to shift out is fixed, and the frame receiver is empty (R160). -/
def State.startSelection (s : State) (lane : Lane) : State :=
  s.updLane lane fun l =>
    { l with
      selection := s.selectionKind lane
      dataOut := replyFrame (s.replyOut lane) l.topNotice
      receiver := [] }

/-- A command that ends a selection starts it first if no start came before (log entry 5). -/
def State.openSelection (s : State) (lane : Lane) : State :=
  if (s.lanes.get lane).selection = .none then s.startSelection lane else s

/-- The end of a selection: the receiver holds the bytes that were shifted in (log entry 14). -/
def State.closeSelection (s : State) (lane : Lane) (bytes : List Byte) : State :=
  s.updLane lane fun l => { l with selection := .none, receiver := bytes }

/-! ### Judging a request (R163, R165, R177) -/

/-- Offer a NOT_PERMITTED refusal to the capture: recorded if it is empty, with REFUSAL on the PLANT lane (R165). -/
def State.captureRefusal (s : State) (lane : Lane) (kind : RequestKind) : State :=
  match s.capture with
  | some _ => s
  | none => (s.setCapture (some ⟨lane, kind.code, s.tbu.time⟩)).raisePlant .refusal

/-- A taken request: INITIALIZING, then NOT_PERMITTED, then its owning block (R163). -/
def State.judge (s : State) (lane : Lane) (kind : RequestKind) (body : State → State) : State :=
  if s.tbu.phase = .initialising ∧ kind.servedInInit = false then s.answer lane kind .initializing []
  else if kind.permitted (s.lanes.get lane).role = false then
    (s.captureRefusal lane kind).answer lane kind .notPermitted []
  else body s

/-- The end of a selection that shifted in a request frame: the request is taken unless the selection was answered
with PENDING or takes no request (R161, R162, R164, R176). -/
def State.request (s : State) (lane : Lane) (kind : RequestKind) (payload : List Byte) (body : State → State) :
    State :=
  let opened := s.openSelection lane
  let closed := opened.closeSelection lane (requestFrame kind payload)
  if (opened.lanes.get lane).selection = .holder then closed.judge lane kind body else closed

end Sys2Proof.Machine
end

