-- ==== Sys2Proof/Machine/Limits.lean ====
section
/-! DEFINITION. The split arithmetic and the torque limit chain: ceilings, targets, falling and ramped limits, and the
reference clamp (chapters 2 and 3). -/

namespace Sys2Proof.Machine

/-- In RUN, INCH or STOPPING (chapter 1, Table 1, note 3). -/
def DriveState.regulating : DriveState → Bool
  | .run | .inch | .stopping => true
  | .halt | .ready | .tripped => false

/-- The mode ceiling M (R39). -/
def State.modeCeiling (s : State) : Nat :=
  match s.rc.drive with
  | .run | .stopping => Config.fullScale
  | .inch => s.slu.inch
  | .halt | .ready | .tripped => 0

/-- The channel belongs to the group of pinion k or to COMMON (R40). -/
def Group.covers : Group → Pinion → Bool
  | .a, .a | .b, .b | .common, _ => true
  | .a, .b | .b, .a => false

/-- A channel that makes V_k equal to D (R40). -/
def ChannelEntry.derates (c : ChannelEntry) (k : Pinion) : Bool :=
  c.config.enabled && c.config.group.covers k && (c.state == .alert || c.state == .unknown)

/-- The lowest-numbered channel that makes V_k equal to D (R54). -/
def State.vibSource (s : State) (k : Pinion) : Option Channel :=
  eightIndexes.find? fun c => (s.vlu.channels.get c).derates k

/-- The vibration ceiling V_k (R40). -/
def State.vibCeiling (s : State) (k : Pinion) : Nat :=
  if (s.vibSource k).isSome then s.slu.derate else Config.fullScale

/-- The smallest of the four ceilings of pinion k (R38). -/
def State.targetOf (s : State) (k : Pinion) : Nat :=
  min (min s.slu.plant (s.slu.ceil.get k)) (min (s.vibCeiling k) s.modeCeiling)

/-- The reference and the limited state of pinion k from its raw split and limit (R48). -/
def ShareLimit.reclamp (u : ShareLimit) (k : Pinion) : ShareLimit :=
  { u with
    iref := u.iref.set k (clampInt (u.raw.get k) (-(u.limit.get k : Int)) (u.limit.get k))
    limited := u.limited.set k (decide (u.limit.get k < (u.raw.get k).natAbs)) }

/-- Give pinion k a limit and re-clamp its reference (R43, R45). -/
def ShareLimit.setLimit (u : ShareLimit) (k : Pinion) (l : Nat) : ShareLimit :=
  ShareLimit.reclamp { u with limit := u.limit.set k l } k

/-- Store a target. -/
def ShareLimit.setTarget (u : ShareLimit) (k : Pinion) (t : Nat) : ShareLimit :=
  { u with target := u.target.set k t }

/-- Store a raw split and re-clamp (R31). -/
def ShareLimit.setRaw (u : ShareLimit) (k : Pinion) (r : Int) : ShareLimit :=
  ShareLimit.reclamp { u with raw := u.raw.set k r } k

/-- Recompute pinion k's target; a limit above it falls to it at once, with LIMIT on the pinion's lane (R43, R51). -/
def State.retargetPinion (s : State) (k : Pinion) : State :=
  let t := s.targetOf k
  if t < s.slu.limit.get k then
    (s.updSlu fun u => (u.setTarget k t).setLimit k t).raisePinion k .limit
  else s.updSlu fun u => u.setTarget k t

/-- Recompute both targets from the ceilings as they stand (R38, R42). -/
def State.retarget (s : State) : State := (s.retargetPinion .a).retargetPinion .b

/-- One ramp tick of pinion k (R45, R46). DESIGN CHOICE (log entry 32): where a fall of the target to exactly L_k or
L_k + R meets a tick, R47 says that both orders raise the same LIMIT notices, and R43, R45 and R46 give one in one order
only; the model does what R43, R45 and R46 say at each event. -/
def State.rampPinion (s : State) (k : Pinion) : State :=
  let t := s.slu.target.get k
  let l := s.slu.limit.get k
  if l < t then
    let l' := min (l + s.slu.rampStep) t
    let s₁ := if l' = l then s else s.updSlu fun u => u.setLimit k l'
    if l' = t then s₁.raisePinion k .limit else s₁
  else s

/-- The adjustment of a demand: T × d / 32768 rounded half up (R29). -/
def splitAdjust (t d : Int) : Int := (t * d + 16384) >>> (15 : Nat)

/-- The raw split of pinion k for a demand T (R30). -/
def splitRaw (t d : Int) : Pinion → Int
  | .a => sat16 (t + splitAdjust t d)
  | .b => sat16 (t - splitAdjust t d)

/-- The split of a used demand, with both references re-clamped (R30, R31). -/
def State.split (s : State) (t : Int) : State :=
  s.updSlu fun u => (u.setRaw .a (splitRaw t u.offset .a)).setRaw .b (splitRaw t u.offset .b)

/-- Change the drive state outside trip entry: M and the targets follow, and STATE is raised on every lane
(R1, R39). -/
def State.moveTo (s : State) (d : DriveState) : State :=
  ((s.updRc fun r => { r with drive := d }).retarget).raiseAll .state

end Sys2Proof.Machine
end

