-- ==== Sys2Proof/Machine/Flags.lean ====
section
/-! DEFINITION. The flag groups and packed bytes of replies and records: the SAMPLE reply (R35, R74), the snapshot record
(chapter 10, Table 3), and the status bytes of R170 and R159. -/

namespace Sys2Proof.Machine

/-- What a SAMPLE reply shows beside v_dem and the limit chain (R74). -/
structure SampleFlags where
  ignored : Bool
  satHi : Bool
  satLo : Bool
  newGains : Bool
  tripped : Bool
  deriving DecidableEq, Repr

/-- The limited flag of pinion `k` in a reply to pinion `own`: the lead's lane sees both, the other lane its own
(R35). -/
def State.limitedFlag (s : State) (own k : Pinion) : Bool :=
  (own == s.slu.lead || own == k) && s.slu.limited.get k

/-- The payload of a SAMPLE reply to pinion k (Table 6; R35, R50, R74), read as the state stands. -/
def State.sampleReply (s : State) (k : Pinion) (vDem : Int) (f : SampleFlags) : List Byte :=
  int16 vDem ++ int16 (s.slu.iref.get k) ++ nat16 (s.slu.limit.get k) ++
    [packBits [s.limitedFlag k .a, s.limitedFlag k .b, f.ignored, f.satHi, f.satLo, f.newGains, f.tripped]]

/-- The twelve bytes of a snapshot record (chapter 10, Table 3). -/
def Snapshot.bytes (r : Snapshot) : List Byte :=
  be16 r.seq ++ be16 r.iMeas ++ int16 r.iRef ++ int16 r.vDem ++ nat16 r.limit ++
    [packBits [r.satHi, r.satLo, r.limited, r.gap, r.post, r.trigger, r.abandoned, r.demand], r.drive.code]

/-- A flag of the latest-sample record; an absent record reads as clear (R10). -/
def latestFlag (r : Option LatestSample) (f : LatestSample → Bool) : Bool :=
  match r with
  | some l => f l
  | none => false

/-- i_meas of a latest-sample record; an absent record reads as 0 (R10). -/
def latestCurrent (r : Option LatestSample) : Word16 :=
  match r with
  | some l => l.iMeas
  | none => 0

/-- n of a latest-sample record; an absent record reads as 0 (R10). -/
def latestSpeed (r : Option LatestSample) : Word16 :=
  match r with
  | some l => l.n
  | none => 0

/-- The run control byte of READ STATUS (R170). -/
def RunControl.byte (r : RunControl) : Byte :=
  packBits [r.silent.a, r.silent.b, r.ack.a, r.ack.b,
    latestFlag r.latest.a (·.ready), latestFlag r.latest.b (·.ready),
    latestFlag r.latest.a (·.fault), latestFlag r.latest.b (·.fault)]

/-- A record is FILLING (R170). -/
def Recorder.anyFilling (t : Recorder) : Bool := t.slots.toList.any fun x => x.state == .filling

/-- The part byte of READ STATUS (R170). -/
def State.partByte (s : State) : Byte :=
  packBits [s.tbu.phase == .initialising, s.capture.isSome, s.scc.discovery.isSome, s.trc.anyFilling]

/-- The reset cause set as a byte (R170). -/
def ResetCauses.byte (c : ResetCauses) : Byte := packBits [c.powerOn, c.resetPin, c.plantReset]

/-- The refusal capture as READ STATUS returns it (R170). -/
def captureBytes : Option Capture → List Byte
  | some c => [byteOf c.lane.val, c.kind] ++ be32 c.time
  | none => [255, 0] ++ be32 0

/-- The imbalance level |f >> 8| (R89). -/
def imbalanceLevel (f : Int) : Nat := (f >>> (8 : Nat)).natAbs

/-- The V_k source byte of READ LIMITS: none while V_k is 32767, whatever makes it so (R54, Table 6). -/
def State.sourceByte (s : State) (k : Pinion) : Byte :=
  if s.vibCeiling k = Config.fullScale then 255
  else
    match s.vibSource k with
    | none => 255
    | some c => byteOf c.val ||| (if (s.vlu.channels.get c).state = .unknown then 0x80 else 0)

/-- The pending marks byte of READ LIMITS (Table 6). -/
def pendingMarks : Option StagedSet → Byte
  | some g => packBits [g.mark.a, g.mark.b]
  | none => 0

end Sys2Proof.Machine
end

