-- ==== Sys2Proof/Machine/Recorder.lean ====
section
/-! DEFINITION. The trip recorder's operations: writing a snapshot record (R133 to R135, R143), closing a record (R144),
choosing and opening a slot (R139, R140), the overflow summary (R141), later causes (R142), and a cursor's count and
record (R150, R152). -/

namespace Sys2Proof.Machine

/-- The slot of the current trip's record while it is FILLING (R138). -/
def Recorder.fillingSlot (t : Recorder) : Option (Fin 8) :=
  match t.current with
  | some i => if (t.slots.get i).state = .filling then some i else none
  | none => none

/-- Change the record of one slot. -/
def Recorder.updRecord (t : Recorder) (i : Fin 8) (f : TripRecord → TripRecord) : Recorder :=
  { t with slots := t.slots.set i { t.slots.get i with record := f (t.slots.get i).record } }

/-- Change the state of one slot. -/
def Recorder.setSlotState (t : Recorder) (i : Fin 8) (x : SlotState) : Recorder :=
  { t with slots := t.slots.set i { t.slots.get i with state := x } }

/-- The FILLING record to whose post-trigger part pinion k's next record is appended (R143). -/
def Recorder.appendSlot (t : Recorder) (k : Pinion) : Option (Fin 8) :=
  match t.fillingSlot with
  | some i => if ((t.slots.get i).record.post.get k).length < Config.postSize then some i else none
  | none => none

/-- A record with this sample counter has GAP set (R135). -/
def gapAfter (prev : Option Byte) (counter : Byte) : Bool :=
  match prev with
  | some p => counter != p + 1
  | none => false

/-- A record handed to the recorder for pinion k, completed with its part sequence number, GAP and POST
(R134, R135). -/
def Recorder.complete (t : Recorder) (k : Pinion) (counter : Byte) (draft : Snapshot) (post : Bool) : Snapshot :=
  { draft with seq := t.nextSeq.get k, gap := gapAfter (t.prevCounter.get k) counter, post := post }

/-- A completed record joins pinion k's ring; the oldest of 64 leaves it (R133). -/
def Recorder.push (t : Recorder) (k : Pinion) (counter : Byte) (r : Snapshot) : Recorder :=
  { t with
    rings := t.rings.set k (lastN Config.ringSize (t.rings.get k ++ [r]))
    nextSeq := t.nextSeq.set k (t.nextSeq.get k + 1)
    prevCounter := t.prevCounter.set k (some counter) }

/-- Append a completed record to a slot's post-trigger part (R143). -/
def Recorder.append (t : Recorder) (i : Fin 8) (k : Pinion) (r : Snapshot) : Recorder :=
  t.updRecord i fun x => { x with post := x.post.set k (x.post.get k ++ [r]) }

/-- Both post-trigger parts hold 16 records (R144). -/
def TripRecord.full (x : TripRecord) : Bool :=
  decide (Config.postSize ≤ x.post.a.length) && decide (Config.postSize ≤ x.post.b.length)

/-- A FILLING record closes: CLOSED, the timer stopped, RECORD_CLOSED on every lane (R144). -/
def State.closeRecord (s : State) (i : Fin 8) : State :=
  (s.updTrc fun t => { t.setSlotState i .closed with postTimer := false }).raiseAll .recordClosed

/-- Write a record that trip entry itself produces: into the ring only, with POST clear (R140). -/
def State.writeEntryRecord (s : State) (k : Pinion) (counter : Byte) (draft : Snapshot) : State :=
  s.updTrc fun t => t.push k counter (t.complete k counter draft false)

/-- Write a record into pinion k's ring and, while a record is FILLING with room, into its post-trigger part; the
append that fills both parts closes it (R133, R143, R144). -/
def State.writeRecord (s : State) (k : Pinion) (counter : Byte) (draft : Snapshot) : State :=
  match s.trc.appendSlot k with
  | none => s.writeEntryRecord k counter draft
  | some i =>
    let s₁ := s.updTrc fun t =>
      let r := t.complete k counter draft true
      (t.push k counter r).append i k r
    if (s₁.trc.slots.get i).record.full then s₁.closeRecord i else s₁

/-- The FREE or, failing that, the READ slot that a trip takes: the lowest-numbered FREE slot, else the READ slot with
the lowest trip number (R139). -/
def Recorder.chooseSlot (t : Recorder) : Option (Fin 8) :=
  match eightIndexes.find? fun i => (t.slots.get i).state == .free with
  | some i => some i
  | none =>
    eightIndexes.foldl (fun best i =>
      if (t.slots.get i).state = .read then
        match best with
        | none => some i
        | some j => if (t.slots.get i).record.number < (t.slots.get j).record.number then some i else some j
      else best) none

/-- What the reuse of a slot does to one cursor (R155). -/
def Cursor.lose (c : Cursor) (slot : Fin 8) : Cursor :=
  match c with
  | .idle => .idle
  | .fetching p => if p.slot = slot then .gone p else .fetching p
  | .fetched p r => if p.slot = slot then .gone p else .fetched p r
  | .gone p => .gone p

/-- The hand-over of a reused slot to every lane's cursor (R155). -/
def State.loseCursors (s : State) (slot : Fin 8) : State :=
  s.updLanesWhere (fun _ => true) fun l => { l with cursor := l.cursor.lose slot }

/-- The record a trip opens, its header and its pre-trigger parts taken from the state at the report (R140). -/
def State.newRecord (s : State) (cause : Cause) (value limit : Nat) : TripRecord where
  number := s.trc.tripCount
  time := s.tbu.time
  before := s.rc.drive
  cause := cause
  value := value
  limit := limit
  later := []
  more := false
  limits := s.slu.limit
  channels := s.vlu.channels.map fun _ c => c.state
  cutShort := false
  pre := s.trc.rings.map (lastN Config.preSize)
  post := .both []

/-- Open the record of a trip in a slot: FILLING, the post-trip timer running (R140). -/
def State.openSlot (s : State) (i : Fin 8) (cause : Cause) (value limit : Nat) : State :=
  (s.loseCursors i).updTrc fun t =>
    { t with
      slots := t.slots.set i ⟨.filling, s.newRecord cause value limit⟩
      current := some i
      postTimer := true }

/-- A trip that takes no slot goes to the overflow summary (R141). -/
def State.overflowTrip (s : State) (cause : Cause) : State :=
  s.updTrc fun t =>
    { t with
      overflow := some ⟨t.tripCount, s.tbu.time, cause⟩
      unrecorded := min (t.unrecorded + 1) 255
      current := none }

/-- The trip recorder's part of a trip entry: the trip count advances, and the trip takes a slot or goes to the
overflow summary (R139). -/
def State.recordTrip (s : State) (cause : Cause) (value limit : Nat) : State :=
  if s.trc.tripCount < Config.countMax then
    let s₁ := s.updTrc fun t => { t with tripCount := t.tripCount + 1 }
    match s₁.trc.chooseSlot with
    | some i => s₁.openSlot i cause value limit
    | none => s₁.overflowTrip cause
  else s.overflowTrip cause

/-- A later cause offered to a record (R142). -/
def TripRecord.offer (x : TripRecord) (cause : Cause) : TripRecord :=
  if cause = x.cause ∨ cause ∈ x.later then x
  else if x.later.length < Config.laterSize then { x with later := x.later ++ [cause] }
  else { x with more := true }

/-- A cause reported in TRIPPED: offered to the current trip's record while it is FILLING (R17, R142). -/
def State.offerLater (s : State) (cause : Cause) : State :=
  match s.trc.fillingSlot with
  | some i => s.updTrc fun t => t.updRecord i (·.offer cause)
  | none => s

/-- A pinion's snapshot in a record: pre-trigger records first (R150). -/
def TripRecord.snapshots (x : TripRecord) (k : Pinion) : List Snapshot := x.pre.get k ++ x.post.get k

/-- The count of a cursor's pinion in a slot (R150). -/
def Recorder.count (t : Recorder) (slot : Fin 8) (k : Pinion) : Nat :=
  ((t.slots.get slot).record.snapshots k).length

end Sys2Proof.Machine
end

