-- ==== Sys2Proof/Machine/Regulator.lean ====
section
/-! DEFINITION. The PI computation step by step (R65 to R69), its entry into the RAU and its start (R64, R70, R72), its
completion (R73), and the records of samples (R73, R75, R77). -/

namespace Sys2Proof.Machine

/-! ### The seven steps -/

/-- The current error, saturated before it is multiplied (R65). -/
def piError (iRef : Int) (iMeas : Word16) : Int := sat16 (iRef - iMeas.toInt)

/-- The last output was clamped on the side the error drives to (R66). -/
def Sat.holds : Sat → Int → Bool
  | .high, e => decide (0 < e)
  | .low, e => decide (e < 0)
  | .zero, _ => false

/-- The new accumulator value (R66). -/
def piAccumulate (acc : Int) (sat : Sat) (ki : Nat) (e : Int) : Int :=
  if sat.holds e then acc else clampInt (acc + ki * e) (-Config.accBound) Config.accBound

/-- The integral term, rounded half up (R67). -/
def piIntegral (acc : Int) : Int := sat16 ((acc + 32768) >>> (16 : Nat))

/-- The proportional term, rounded half up and not saturated (R68). -/
def piProportional (kp : Nat) (e : Int) : Int := (kp * e + 2048) >>> (12 : Nat)

/-- The speed feedforward (R69). -/
def piFeedforward (g : GainSet) (n : Word16) : Int := if g.feedforward then n.toInt else 0

/-- The error of a computation. -/
def Computation.error (c : Computation) : Int := piError c.iRef c.entry.iMeas

/-- The accumulator value a computation ends with (R66). -/
def Computation.newAcc (c : Computation) : Int := piAccumulate c.acc c.sat c.gains.ki c.error

/-- The sum before the output clamp (R69). -/
def Computation.sum (c : Computation) : Int :=
  piProportional c.gains.kp c.error + piIntegral c.newAcc + piFeedforward c.gains c.entry.n

/-- The voltage demand (R69). -/
def Computation.vDem (c : Computation) : Int := clampInt c.sum c.gains.uMin c.gains.uMax

/-- The new saturation sign, judged before the clamp (R69). -/
def Computation.newSat (c : Computation) : Sat :=
  if c.gains.uMax < c.sum then .high else if c.sum < c.gains.uMin then .low else .zero

/-! ### Gain sets -/

/-- Channel k takes up the staged set as its applied set if its pending mark is set; when both marks are clear, the
staged set is absent (R61). -/
def Regulators.takeUp (r : Regulators) (k : Pinion) : Regulators :=
  match r.staged with
  | none => r
  | some g =>
    if g.mark.get k then
      let mark := g.mark.set k false
      { r with
        applied := r.applied.set k g.gains
        staged := if mark.get .a || mark.get .b then some ⟨g.gains, mark⟩ else none }
    else r

/-- A start of channel k takes up a staged set (R61, R72). -/
def Regulators.willTakeUp (r : Regulators) (k : Pinion) : Bool :=
  match r.staged with
  | none => false
  | some g => g.mark.get k

/-- On leaving regulation the staged set becomes the applied set of each channel still pending (R63). -/
def Regulators.applyStaged (r : Regulators) : Regulators := { (r.takeUp .a).takeUp .b with staged := none }

/-- The set number that follows the last one: 255 is followed by 1 (R58). -/
def nextSetNumber (n : Nat) : Nat := if n < 255 then n + 1 else 1

/-! ### The RAU -/

/-- The entries the RAU holds, in their order of service (R70, R75). -/
def Rau.entries (r : Rau) : List Entry :=
  match r.inFlight with
  | some c => c.entry :: r.waiting
  | none => r.waiting

/-- The start of a computation: the take-up, then the values read, which do not change for it (R72). -/
def State.startComputation (s : State) (e : Entry) : State :=
  let k := e.pinion
  let newGains := s.crg.willTakeUp k
  let s₁ := s.updCrg fun r => r.takeUp k
  s₁.updRau fun r =>
    { r with
      inFlight := some ⟨e, s₁.slu.iref.get k, s₁.crg.acc.get k, s₁.crg.sat.get k, s₁.crg.applied.get k, newGains⟩ }

/-- A computation enters the RAU: it starts if the RAU is idle and waits if not (R70). -/
def State.enterRau (s : State) (e : Entry) : State :=
  match s.rau.inFlight with
  | none => s.startComputation e
  | some _ => s.updRau fun r => { r with waiting := r.waiting ++ [e] }

/-- The waiting computation starts (R70). -/
def State.startWaiting (s : State) : State :=
  match s.rau.waiting with
  | [] => s
  | e :: rest => (s.updRau fun r => { r with waiting := rest }).startComputation e

/-! ### Records of samples -/

/-- The record of an entry's sample with the reference, limit and limited state as they stand, v_dem 0 and every flag
clear but DEMAND (R75, R77). -/
def State.draft (s : State) (e : Entry) : Snapshot where
  seq := 0
  iMeas := e.iMeas
  iRef := s.slu.iref.get e.pinion
  vDem := 0
  limit := s.slu.limit.get e.pinion
  satHi := false
  satLo := false
  limited := s.slu.limited.get e.pinion
  gap := false
  post := false
  trigger := false
  abandoned := false
  demand := e.demand
  drive := e.drive

/-- The record of a completed computation (R73). -/
def State.completionRecord (s : State) (c : Computation) : Snapshot :=
  { s.draft c.entry with
    vDem := c.vDem
    satHi := c.newSat == .high
    satLo := c.newSat == .low }

/-- The flags of a completed computation's reply (R74). -/
def Computation.flags (c : Computation) : SampleFlags :=
  ⟨c.entry.demandIgnored, c.newSat == .high, c.newSat == .low, c.newGains, false⟩

/-- The completion of a computation: ACC and sat written, the reply, the snapshot record, then the waiting computation
starts (R73). -/
def State.completeComputation (s : State) (c : Computation) : State :=
  let k := c.entry.pinion
  let s₁ := s.updCrg fun r => { r with acc := r.acc.set k c.newAcc, sat := r.sat.set k c.newSat }
  let s₂ := s₁.updRau fun r => { r with inFlight := none }
  let s₃ := s₂.answerPinion k (s₂.sampleReply k c.vDem c.flags)
  let s₄ := s₃.writeRecord k c.entry.counter (s₃.completionRecord c)
  s₄.startWaiting

end Sys2Proof.Machine
end

