-- ==== Sys2Proof/Machine/Trip.lean ====
section
/-! DEFINITION. Leaving regulation (R9, R63, R75), trip entry (R15, R16) and the reporting of trip conditions (R14,
R17). -/

namespace Sys2Proof.Machine

/-- What the regulators lose on leaving regulation (R9, R63). -/
def Regulators.rest (r : Regulators) : Regulators :=
  { r.applyStaged with acc := .both 0, sat := .both .zero }

/-- The entry actions of READY from STOPPING, of HALT and of TRIPPED: accumulators, saturation signs and raw splits at
0, the RAU idle, the stop timer stopped, and the limits and references fallen with M (R9, R6, R39). -/
def State.enterRest (s : State) (d : DriveState) : State :=
  ((((s.updRc fun r => { r with drive := d, stopTimer := none }).updCrg Regulators.rest).updRau
    fun _ => .reset).updSlu fun u => (u.setRaw .a 0).setRaw .b 0).retarget

/-- The record of an abandoned computation, with the reference, limit and limited state as they stand (R75). -/
def State.abandonedRecord (s : State) (e : Entry) : Snapshot := { s.draft e with abandoned := true }

/-- The reply of an abandoned computation: v_dem 0, DEMAND_IGNORED as decided, TRIPPED for trip entry (R75). -/
def State.replyAbandoned (trip : Bool) (s : State) (e : Entry) : State :=
  s.answerPinion e.pinion (s.sampleReply e.pinion 0 ⟨e.demandIgnored, false, false, false, trip⟩)

/-- The ABANDONED record of a trip entry: into the ring only (R140). -/
def State.abandonAtTrip (s : State) (e : Entry) : State :=
  s.writeEntryRecord e.pinion e.counter (s.abandonedRecord e)

/-- The ABANDONED record at the end of a stop (R75). -/
def State.abandonAtStop (s : State) (e : Entry) : State := s.writeRecord e.pinion e.counter (s.abandonedRecord e)

/-- The TRIGGER record of a sample whose own arrival trips the drive, if there is one (R16, R77). -/
def State.writeTrigger (s : State) : Option Entry → State
  | some e => s.writeEntryRecord e.pinion e.counter { s.draft e with trigger := true, demand := false }
  | none => s

/-- Trip entry (R15, R16, R140): the records of the entry, the trip record, the leaving of regulation, the acknowledge
marks, the replies of abandoned computations, and TRIP and STATE on every lane. -/
def State.enterTrip (s : State) (cause : Cause) (value limit : Nat) (trigger : Option Entry) : State :=
  let lost := s.rau.entries
  let s₁ := lost.foldl State.abandonAtTrip s
  let s₂ := (s₁.writeTrigger trigger).recordTrip cause value limit
  let s₃ := (s₂.enterRest .tripped).updRc fun r => { r with ack := .both false }
  let s₄ := lost.foldl (State.replyAbandoned true) s₃
  (s₄.raiseAll .trip).raiseAll .state

/-- A detecting block reports a trip condition (R14): trip entry outside TRIPPED (R15), a later cause in it (R17).
`trigger` is the sample whose arrival is being handled, if the event is one. -/
def State.reportTrip (s : State) (cause : Cause) (value limit : Nat) (trigger : Option Entry) : State :=
  if s.rc.drive = .tripped then s.offerLater cause else s.enterTrip cause value limit trigger

/-- The end of a controlled stop: READY, with the leaving-regulation actions and the replies and records of abandoned
computations after the fall (R7, R9, R75). -/
def State.endStop (s : State) : State :=
  let lost := s.rau.entries
  let s₁ := s.enterRest .ready
  let s₂ := lost.foldl State.abandonAtStop s₁
  let s₃ := lost.foldl (State.replyAbandoned false) s₂
  s₃.raiseAll .state

end Sys2Proof.Machine
end

