-- ==== Sys2Proof/Machine/Vibration.lean ====
section
/-! DEFINITION. The vibration level unit: filling a window (R120 to R122), the level (R123), the run counters and the state
move (R125, R126), and the consequences of a completion, a loss, a disabling and a discovery (R124, R127 to R130). -/

namespace Sys2Proof.Machine

/-- Change one channel entry. -/
def Vibration.updChannel (v : Vibration) (c : Channel) (f : ChannelEntry → ChannelEntry) : Vibration :=
  { v with channels := v.channels.set c (f (v.channels.get c)) }

/-- k = log2 W of a window code: codes 0..4 give W = 64..1024 (chapter 7, Table 2). -/
def windowLog (code : Nat) : Nat := 6 + code

/-- W of a window code. -/
def windowLength (code : Nat) : Nat := 2 ^ windowLog code

/-- The window emptied (R119, R122, R130). -/
def ChannelEntry.emptyWindow (c : ChannelEntry) : ChannelEntry := { c with s1 := 0, s2 := 0, count := 0, subs := 0 }

/-- A value joins the sums, and the sample count advances (R120). -/
def ChannelEntry.add (c : ChannelEntry) (x : Int) : ChannelEntry :=
  { c with s1 := c.s1 + x, s2 := c.s2 + x.natAbs * x.natAbs, count := c.count + 1 }

/-- The window end: the level computation starts, and the window is emptied (R122). -/
def ChannelEntry.endWindow (c : ChannelEntry) (code : Nat) : ChannelEntry :=
  if windowLength code ≤ c.count then
    { c.emptyWindow with computation := some ⟨c.s1, c.s2, c.subs, code⟩ }
  else c

/-- The hand-over of a good sample (R120). -/
def ChannelEntry.goodSample (c : ChannelEntry) (x : Int) (code : Nat) : ChannelEntry :=
  { c.add x with held := x }.endWindow code

/-- The hand-over of a failed sample: the last good sample stands in for it (R121). -/
def ChannelEntry.failedSample (c : ChannelEntry) (code : Nat) : ChannelEntry :=
  { c.add c.held with subs := c.subs + 1 }.endWindow code

/-- The mean square of a window with its mean removed, floored at 0 (R123). -/
def LevelComputation.meanSquare (l : LevelComputation) : Nat :=
  let mean := (l.s1 >>> windowLog l.code).natAbs
  (l.s2 >>> windowLog l.code) - mean * mean

/-- The level of a window (R123). -/
def LevelComputation.rms (l : LevelComputation) : Nat := isqrt l.meanSquare

/-- A window with more than W/4 substitutions is SUSPECT (R124). -/
def LevelComputation.suspect (l : LevelComputation) : Bool := decide (windowLength l.code < 4 * l.subs)

/-- A run counter: one more, up to 15, while its condition holds, and 0 otherwise (R125, Table 3). -/
def runStep (holds : Bool) (n : Nat) : Nat := if holds then min (n + 1) 15 else 0

/-- The four run counters after a non-suspect window (R125). -/
def RunCounters.step (r : RunCounters) (g : ChannelConfig) (rms : Nat) : RunCounters where
  a := runStep (decide (g.alert ≤ rms)) r.a
  g := runStep (decide (g.danger ≤ rms)) r.g
  c := runStep (decide (rms + g.hysteresis < g.alert)) r.c
  cd := runStep (decide (rms + g.hysteresis < g.danger)) r.cd

/-- The state move of a non-suspect window (R126, Table 4). -/
def Vibration.move (v : Vibration) (g : ChannelConfig) (rms : Nat) (r : RunCounters) : ChannelState → ChannelState
  | .unknown => if g.alert ≤ rms then .alert else .normal
  | .normal => if v.nd ≤ r.g then .danger else if v.na ≤ r.a then .alert else .normal
  | .alert => if v.nd ≤ r.g then .danger else if v.nc ≤ r.c then .normal else .alert
  | .danger => if v.nc ≤ r.cd then .alert else .danger

/-- The end of a level computation: the sequence number and the level record (R124). -/
def ChannelEntry.recordLevel (c : ChannelEntry) (l : LevelComputation) (time : Word32) : ChannelEntry :=
  { c with
    computation := none
    seq := c.seq + 1
    record := some ⟨l.rms, c.seq + 1, l.suspect, time⟩ }

/-- The channel after a SUSPECT window: UNKNOWN at the third in a row (R124). -/
def ChannelEntry.suspectWindow (c : ChannelEntry) : ChannelEntry :=
  let n := min (c.suspectRun + 1) 3
  if n = 3 ∧ c.state ≠ .unknown then { c with suspectRun := n, state := .unknown, runs := .zero }
  else { c with suspectRun := n }

/-- The channel after a non-suspect window: the run counters, then at most one move (R125, R126). -/
def Vibration.goodWindow (v : Vibration) (c : ChannelEntry) (rms : Nat) : ChannelEntry :=
  let runs := c.runs.step c.config rms
  { c with suspectRun := 0, runs := runs, state := v.move c.config rms runs c.state }

/-- The channel entry after the completion of a level computation (R124 to R126). -/
def Vibration.completeLevel (v : Vibration) (c : ChannelEntry) (l : LevelComputation) (time : Word32) :
    ChannelEntry :=
  let c₁ := c.recordLevel l time
  if l.suspect then c₁.suspectWindow else v.goodWindow c₁ l.rms

/-- What loss of the node, disabling and discovery do to a channel: the computation abandoned, the window emptied, the
counters at 0, UNKNOWN (R118, R129, R130). -/
def ChannelEntry.forget (c : ChannelEntry) : ChannelEntry :=
  { c.emptyWindow with computation := none, runs := .zero, suspectRun := 0, state := .unknown }

/-- The consequences of a channel state change: VIB_STATE, and both ceilings and targets re-evaluated (R128). -/
def State.channelMoved (s : State) : State := (s.raiseWatchers .vibState).retarget

/-- The consequences, if the state of channel c is not what it was (R128). -/
def State.noteMove (s : State) (c : Channel) (before : ChannelState) : State :=
  if (s.vlu.channels.get c).state = before then s else s.channelMoved

/-- The completion of channel c's level computation (R124 to R128). -/
def State.levelCompletes (s : State) (c : Channel) (l : LevelComputation) : State :=
  let before := s.vlu.channels.get c
  let after := s.vlu.completeLevel before l s.tbu.time
  let s₁ := s.updVlu fun v => v.updChannel c fun _ => after
  let s₂ :=
    if after.state = .danger ∧ before.state ≠ .danger then
      s₁.reportTrip (.vibDanger c) l.rms after.config.danger none
    else s₁
  s₂.noteMove c before.state

/-- The loss of the node at position c (R129). -/
def State.nodeLost (s : State) (c : Channel) : State :=
  let before := s.vlu.channels.get c
  let s₁ := s.updVlu fun v => v.updChannel c ChannelEntry.forget
  let s₂ :=
    if before.config.enabled = true ∧ before.config.tripOnLoss = true then
      s₁.reportTrip (.chainLoss c) Config.missLimit Config.missLimit none
    else s₁
  s₂.noteMove c before.state

/-- The hand-over of a position's outcome: a decoded value, or none for a failed sample (R103, R120, R121). -/
def State.handOver (s : State) (c : Channel) (x : Option Int) : State :=
  if (s.vlu.channels.get c).config.enabled then
    s.updVlu fun v =>
      v.updChannel c fun e =>
        match x with
        | some x => e.goodSample x v.windowCode
        | none => e.failedSample v.windowCode
  else s

/-- Every enabled channel forgets at the acceptance of DISCOVER (R109, R130). -/
def Vibration.forgetEnabled (v : Vibration) : Vibration :=
  { v with channels := v.channels.map fun _ c => if c.config.enabled then c.forget else c }

/-- An enabled channel that is not UNKNOWN, whose state the acceptance of DISCOVER changes (R128, R130). -/
def Vibration.anyKnown (v : Vibration) : Bool :=
  v.channels.toList.any fun c => c.config.enabled && c.state != .unknown

end Sys2Proof.Machine
end

