-- ==== Sys2Proof/Machine/Chain.lean ====
section
/-! DEFINITION. The sensor chain controller: the poll and the round (R96, R97), words and their checks (R98, R99), reply
windows and outcomes (R101, R102, R104), and the discovery (R109 to R111). -/

namespace Sys2Proof.Machine

/-! ### Words on the chain (section 6.2) -/

/-- The span code of a poll: 15 for none (chapter 6, Table 2). -/
def spanCode : Option (Fin 8) → BitVec 4
  | some c => BitVec.ofNat 4 c.val
  | none => 15

/-- The mark code "clear" (Table 2). -/
def markClear : BitVec 4 := 8

/-- The mark code "none" (Table 2). -/
def markNone : BitVec 4 := 15

/-- The poll: start pattern 11, span code, mark code, and the parity bit that makes the ones among the codes and itself
even (Table 2, note 1). -/
def pollWord (span mark : BitVec 4) : BitVec 11 :=
  let fields : BitVec 8 := span ++ mark
  (0b11#2 ++ fields) ++ BitVec.ofBool (onesBelow fields 8 % 2 == 1)

/-- A reply word passes its check: the expected start pattern and even parity (R98). -/
def passesCheck (pattern : BitVec 2) (w : Word16) : Bool :=
  w.extractLsb' 14 2 == pattern && onesBelow w 14 % 2 == 0

/-- The start pattern of a sample word (Table 2). -/
def samplePattern : BitVec 2 := 0b10

/-- The start pattern of an identity word (Table 2). -/
def identityPattern : BitVec 2 := 0b11

/-- The decoded value of a sample word: m × 2^s clamped to ±32767 (R99). -/
def sampleValue (w : Word16) : Int :=
  clampInt ((w.extractLsb' 1 10).toInt * 2 ^ (w.extractLsb' 11 3).toNat) (-32767) 32767

/-- The position echo of an identity word (Table 2). -/
def echoOf (w : Word16) : Nat := (w.extractLsb' 11 3).toNat

/-- The identity code of an identity word (Table 2). -/
def identityOf (w : Word16) : BitVec 10 := w.extractLsb' 1 10

/-! ### Windows and outcomes -/

/-- An observed position inside the reply window of position c (R101, Table 1). -/
def inReplyWindow (c : Fin 8) (p : Nat) : Bool :=
  decide (Config.nominal c - 6 ≤ p) && decide (p ≤ Config.nominal c + 24)

/-- An observed position inside the acceptance window around E (R101). -/
def inAcceptance (expected p : Nat) : Bool := decide (expected ≤ p + 3) && decide (p ≤ expected + 3)

/-- The first word that starts in position c's reply window; no other is read (R98). -/
def firstWord (c : Fin 8) (words : List ChainWord) : Option ChainWord := words.find? fun w => inReplyWindow c w.start

/-- The outcome of a polled position in a round (R102). -/
inductive Reception where
  | good (x : Int)
  | bad
  | misaligned (at_ : Nat)
  | missing
  deriving DecidableEq, Repr

/-- What the window of a polled position held (R102). -/
def NodeEntry.receive (e : NodeEntry) (c : Fin 8) (words : List ChainWord) : Reception :=
  match firstWord c words with
  | none => .missing
  | some w =>
    if inAcceptance e.expected w.start then
      if passesCheck samplePattern w.bits then .good (sampleValue w.bits) else .bad
    else .misaligned w.start

/-- A failed round: the miss run count advances, and the sixteenth in a row loses the node (R104). -/
def NodeEntry.missRound (e : NodeEntry) : NodeEntry :=
  let n := min (e.miss + 1) Config.missLimit
  { e with miss := n, state := if n = Config.missLimit then .lost else e.state }

/-- The entry after an outcome (R102, R104). -/
def NodeEntry.settle (e : NodeEntry) : Reception → NodeEntry
  | .good _ => { e with miss := 0 }
  | .bad => { e with parity := min (e.parity + 1) Config.countMax }.missRound
  | .misaligned p =>
    { e with
      expected := if p < e.expected then e.expected - 1 else e.expected + 1
      misalign := min (e.misalign + 1) Config.countMax }.missRound
  | .missing => e.missRound

/-- The value handed over for an outcome: none for a failed sample (R103). -/
def Reception.value : Reception → Option Int
  | .good x => some x
  | .bad | .misaligned _ | .missing => none

/-- Change one node entry. -/
def SensorChain.setNode (n : SensorChain) (c : Fin 8) (e : NodeEntry) : SensorChain :=
  { n with nodes := n.nodes.set c e }

/-! ### Rounds -/

/-- The highest position whose node is LOCKED and whose channel is enabled (R96). -/
def State.spanEnd (s : State) : Option (Fin 8) :=
  eightIndexes.reverse.find? fun c =>
    (s.scc.nodes.get c).state == .locked && (s.vlu.channels.get c).config.enabled

/-- The polled positions of a round that starts now (R97). -/
def State.polledPositions (s : State) : List (Fin 8) :=
  match s.spanEnd with
  | none => []
  | some e => eightIndexes.filter fun c => decide (c.val ≤ e.val) && (s.scc.nodes.get c).state == .locked

/-- The discovery step a round that starts now makes: the mark code, the search position, and the discovery after the
poll (R96, R109, R110). -/
def discoveryRound : Option Discovery → BitVec 4 × Option (Fin 8) × Option Discovery
  | none => (markNone, none, none)
  | some d =>
    match d.step with
    | .clear false => (markClear, none, some { d with step := .clear true })
    | .clear true => (0, some 0, some { d with step := .search 0 1 })
    | .search n rounds => (BitVec.ofNat 4 n.val, some n, some { d with step := .search n (rounds + 1) })

/-- The first search round for a position makes its entry SEARCHING (R106, R110). -/
def SensorChain.beginSearch (n : SensorChain) (search : Option (Fin 8)) : SensorChain :=
  match search with
  | none => n
  | some c => n.setNode c { n.nodes.get c with state := .searching }

/-- A round is in progress while a window of it is open (R97). -/
def Round.ofWindows (polled : List (Fin 8)) (search : Option (Fin 8)) : Option Round :=
  if polled = [] ∧ search = none then none else some ⟨polled, search⟩

/-- The start of a round: the poll is formed from the state as it stands and sent, the round timer loaded (R95, R96,
R97, R109, R110). -/
def State.startRound (s : State) : State :=
  let span := s.spanEnd
  let polled := s.polledPositions
  let step := discoveryRound s.scc.discovery
  s.updScc fun n =>
    { n.beginSearch step.2.1 with
      timerRate := n.rate
      discovery := step.2.2
      poll := some (pollWord (spanCode span) step.1)
      lastSpan := span
      round := Round.ofWindows polled step.2.1 }

/-! ### Window closes -/

/-- The window of position c is closed in the round in progress (R97). -/
def Round.close (r : Round) (c : Fin 8) : Option Round :=
  Round.ofWindows (r.polled.filter (· != c)) (if r.search = some c then none else r.search)

/-- The close of a polled position's window: the outcome, the entry, and the hand-over or the loss (R102 to R104). An
entry that is no longer LOCKED is not judged (R109). -/
def State.closePolled (s : State) (c : Fin 8) (words : List ChainWord) : State :=
  let e := s.scc.nodes.get c
  if e.state = .locked then
    let r := e.receive c words
    let s₁ := s.updScc fun n => n.setNode c (e.settle r)
    if (e.settle r).state = .lost then s₁.nodeLost c else s₁.handOver c r.value
  else s

/-- A valid answer at search position c: the word, if it passes as an identity word and echoes c (R110). -/
def validAnswer (c : Fin 8) (words : List ChainWord) : Option ChainWord :=
  match firstWord c words with
  | some w => if passesCheck identityPattern w.bits = true ∧ echoOf w.bits = c.val then some w else none
  | none => none

/-- The end of a discovery: the last result, and CHAIN_DONE on the PLANT and MONITOR lanes (R111). -/
def State.endDiscovery (s : State) (found count : Nat) : State :=
  (s.updScc fun n => { n with discovery := none, lastResult := .foundOf found count }).raiseWatchers .chainDone

/-- The position after c, if the chain has one. -/
def nextPosition (c : Fin 8) : Option (Fin 8) := if h : c.val + 1 < 8 then some ⟨c.val + 1, h⟩ else none

/-- A valid answer locks position c, and the discovery moves on or ends (R110, R111). -/
def State.lockPosition (s : State) (d : Discovery) (c : Fin 8) (w : ChainWord) : State :=
  let s₁ := s.updScc fun n =>
    n.setNode c { n.nodes.get c with
      state := .locked, identity := some (identityOf w.bits), expected := w.start, miss := 0 }
  match (if c.val + 1 < d.count then nextPosition c else none) with
  | some next => s₁.updScc fun n => { n with discovery := some ⟨d.count, .search next 0, c.val + 1⟩ }
  | none => s₁.endDiscovery (c.val + 1) d.count

/-- A search round without a valid answer; after the 64th the search of the position has run out (R110, R111). -/
def State.missSearch (s : State) (d : Discovery) (c : Fin 8) (rounds : Nat) : State :=
  if Config.searchRounds ≤ rounds then
    (s.updScc fun n => n.setNode c { n.nodes.get c with state := .absent }).endDiscovery c.val d.count
  else s

/-- The close of the search position's window (R110, R111). -/
def State.closeSearch (s : State) (c : Fin 8) (words : List ChainWord) : State :=
  match s.scc.discovery with
  | none => s
  | some d =>
    match d.step with
    | .clear _ => s
    | .search n rounds =>
      if n = c then
        match validAnswer c words with
        | some w => s.lockPosition d c w
        | none => s.missSearch d c rounds
      else s

/-- The close of position c's reply window; a position without an open window has no close (R97). -/
def State.closeWindow (s : State) (c : Fin 8) (words : List ChainWord) : State :=
  match s.scc.round with
  | none => s
  | some r =>
    let s₁ := s.updScc fun n => { n with round := r.close c }
    if c ∈ r.polled then s₁.closePolled c words
    else if r.search = some c then s₁.closeSearch c words
    else s

end Sys2Proof.Machine
end

