-- ==== Sys2Proof/Machine/Watch.lean ====
section
/-! DEFINITION. What an arriving SAMPLE meets on its way: run control (R10, R11, R13), the drive watch (R80 to R89), the
zero-speed test (R7), the demand (R25 to R28), and the current regulator (R64, R77). -/

namespace Sys2Proof.Machine

/-- The latest-sample record is replaced whole, the silence timer restarted with the period of the code in force, the
silent mark cleared (R10, R11). -/
def State.arrive (s : State) (k : Pinion) (l : LatestSample) : State :=
  s.updRc fun r =>
    { r with
      latest := r.latest.set k (some l)
      silenceTimer := r.silenceTimer.set k (some (Config.silencePeriod s.dwu.watch.silenceCode))
      silent := r.silent.set k false }

/-- The fault flag: a trip condition in every state but HALT (R13). -/
def State.checkFault (s : State) (e : Entry) (fault : Bool) : State :=
  if fault = true ∧ s.rc.drive ≠ .halt then s.reportTrip (.bridgeFault e.pinion) 0 0 (some e) else s

/-- The ready flag: a trip condition in regulation (R13). -/
def State.checkReady (s : State) (e : Entry) (ready : Bool) : State :=
  if ready = false ∧ s.rc.drive.regulating = true then s.reportTrip (.bridgeDrop e.pinion) 0 0 (some e) else s

/-- The overcurrent check (R81). -/
def State.checkOvercurrent (s : State) (e : Entry) : State :=
  if s.dwu.watch.oc ≤ magnitude e.iMeas then
    s.reportTrip (.overcurrent e.pinion) (magnitude e.iMeas) s.dwu.watch.oc (some e)
  else s

/-- The overload sum after a sample with a positive excess: saturated at Q (R82). -/
def State.overloadSum (s : State) (e : Entry) : Nat :=
  min (s.dwu.ol.get e.pinion + (magnitude e.iMeas - s.slu.ceil.get e.pinion)) s.dwu.watch.q

/-- The overload accumulation (R82, R83). -/
def State.checkOverload (s : State) (e : Entry) : State :=
  if s.slu.ceil.get e.pinion < magnitude e.iMeas then
    let sum := s.overloadSum e
    let s₁ := s.updDwu fun w => { w with ol := w.ol.set e.pinion sum }
    if sum = s.dwu.watch.q then s₁.reportTrip (.overload e.pinion) sum s.dwu.watch.q (some e) else s₁
  else s

/-- The imbalance of the measured currents against the references (R87). -/
def State.imbalance (s : State) : Int :=
  ((latestCurrent s.rc.latest.a).toInt - (latestCurrent s.rc.latest.b).toInt) - (s.slu.iref.a - s.slu.iref.b)

/-- The filter after an update with x (R88). -/
def filterStep (f x : Int) (shift : Nat) : Int := f + ((x * 256 - f) >>> shift)

/-- The run count after an update that leaves this level (R89). -/
def runCountStep (run level limit : Nat) : Nat := if limit < level then min (run + 1) 255 else 0

/-- The imbalance check (R87 to R89). -/
def State.checkImbalance (s : State) (e : Entry) : State :=
  if s.rc.drive = .run ∨ s.rc.drive = .stopping then
    let f := filterStep s.dwu.filter s.imbalance s.dwu.watch.shift
    let run := runCountStep s.dwu.runCount (imbalanceLevel f) s.dwu.watch.imbalance
    let s₁ := s.updDwu fun w => { w with filter := f, runCount := run }
    if s.dwu.watch.persistence ≤ run then
      s₁.reportTrip .imbalance (imbalanceLevel f) s.dwu.watch.imbalance (some e)
    else s₁
  else s

/-- Both latest speeds lie within the zero-speed band (R7). -/
def State.atZeroSpeed (s : State) : Bool :=
  decide (magnitude (latestSpeed s.rc.latest.a) ≤ s.dwu.watch.zeroSpeed) &&
    decide (magnitude (latestSpeed s.rc.latest.b) ≤ s.dwu.watch.zeroSpeed)

/-- The zero-speed test of an arrival that STOPPING has survived (R7). -/
def State.zeroSpeedTest (s : State) : State :=
  if s.rc.drive = .stopping ∧ s.atZeroSpeed = true then s.endStop else s

/-- The demand of this arrival is used for a split: it comes from the lead pinion, in regulation (R27, R28). -/
def State.usesDemand (s : State) (k : Pinion) (demand : Option Word16) : Bool :=
  demand.isSome && k == s.slu.lead && s.rc.drive.regulating

/-- The demand of this arrival is ignored with DEMAND_IGNORED: it comes from the other pinion (R27). -/
def State.ignoresDemand (s : State) (k : Pinion) (demand : Option Word16) : Bool :=
  demand.isSome && k != s.slu.lead

/-- The demand is split if it is used (R26, R30). -/
def State.takeDemand (s : State) (k : Pinion) (demand : Option Word16) : State :=
  match demand with
  | some t => if s.usesDemand k demand then s.split t.toInt else s
  | none => s

/-- A sample that reaches the current regulator outside regulation: its record, but for a sample that tripped the drive,
whose TRIGGER record trip entry has written, and its reply with v_dem 0 (R77). -/
def State.answerAtRest (s : State) (lane : Lane) (e : Entry) (tripped : Bool) : State :=
  let s₁ := if tripped then s else s.writeRecord e.pinion e.counter (s.draft e)
  s₁.answer lane .sample .ok (s₁.sampleReply e.pinion 0 ⟨e.demandIgnored, false, false, false, tripped⟩)

/-- The current regulator's part of an arrival: entered into the RAU in regulation (R64), answered at once outside it
(R77). -/
def State.regulate (s : State) (lane : Lane) (e : Entry) (tripped : Bool) : State :=
  if s.rc.drive.regulating then s.enterRau e else s.answerAtRest lane e tripped

/-- The checks of run control and the drive watch on an arrival, in their order (R13, R80). -/
def State.checkSample (s : State) (e : Entry) (ready fault : Bool) : State :=
  ((((s.checkFault e fault).checkReady e ready).checkOvercurrent e).checkOverload e).checkImbalance e

/-- A SAMPLE of pinion k arrives (R10, R13, R80, R7, R26, R64). -/
def State.sampleArrives (s : State) (lane : Lane) (k : Pinion) (iMeas n : Word16) (counter bridge : Byte)
    (demand : Option Word16) : State :=
  let ready := bridge.getLsbD 0
  let fault := bridge.getLsbD 1
  let e : Entry := ⟨k, iMeas, n, counter, false, false, s.rc.drive⟩
  let s₁ := s.arrive k ⟨iMeas, n, ready, fault⟩
  let s₂ := s₁.checkSample e ready fault
  let tripped := s.rc.drive != .tripped && s₂.rc.drive == .tripped
  let s₃ := s₂.zeroSpeedTest
  let e' := { e with demand := s₃.usesDemand k demand, demandIgnored := s₃.ignoresDemand k demand }
  (s₃.takeDemand k demand).regulate lane e' tripped

end Sys2Proof.Machine
end

