-- ==== Sys2Proof/Machine/Operands.lean ====
section
/-! DEFINITION. How the fields of requests are taken: the bounds and codes that each request's rule gives, and the roles
that strap codes settle. -/

namespace Sys2Proof.Machine

/-! ### Codes and bounds -/

/-- A channel or position byte: above 7 it is taken as 7 (R114, R117, R131). -/
def indexOf (b : Byte) : Fin 8 := ⟨min b.toNat 7, Nat.lt_succ_of_le (Nat.min_le_right _ _)⟩

/-- A slot byte 0..7 (R145, R146, R151). -/
def slotOf (b : Byte) : Option (Fin 8) := if h : b.toNat < 8 then some ⟨b.toNat, h⟩ else none

/-- A flag or switch byte: 0 is off, any other value on (R59, R117). -/
def onOf (b : Byte) : Bool := b != 0

/-- A lead code or pinion byte: 0 is A, any other value B (R24, section 9.2). -/
def pinionOf (b : Byte) : Pinion := if b = 0 then .a else .b

/-- A direction byte: 0 is UP, any other value DOWN (section 9.2). -/
def directionOf (b : Byte) : Direction := if b = 0 then .up else .down

/-- A group code: 0 is A, 1 is B, any other value COMMON (R117). -/
def groupOf (b : Byte) : Group := if b = 0 then .a else if b = 1 then .b else .common

/-- A page byte: absent or 0 is the first page (R54, R145). -/
def firstPage (b : Option Byte) : Bool :=
  match b with
  | none => true
  | some p => p == 0

/-- A ceiling field: above 32767 it is taken as 32767 (R52). -/
def ceilingOf (w : Word16) : Nat := min w.toNat Config.fullScale

/-- A ramp step field: above 4096 it is taken as 4096 (R52). -/
def rampStepOf (w : Word16) : Nat := min w.toNat Config.rampStepMax

/-- A share offset field, clamped to ±3277 (R24). -/
def offsetOf (w : Word16) : Int := clampInt w.toInt (-Config.offsetBound) Config.offsetBound

/-- A rate code: above 2 it is taken as 2 (R113). -/
def rateOf (b : Byte) : RoundRate := if b = 0 then .r1024 else if b = 1 then .r2048 else .r4096

/-- A window code: above 4 it is taken as 4 (R119). -/
def windowOf (b : Byte) : Nat := min b.toNat 4

/-- A persistence count: 0 is taken as 1, above 15 as 15 (R119). -/
def persistenceOf (b : Byte) : Nat := min (max b.toNat 1) 15

/-- A discovery count: 0 is taken as 1, above 8 as 8 (R108). -/
def discoveryCountOf (b : Byte) : Nat := min (max b.toNat 1) 8

/-- A current band or threshold: above 32768 it is taken as 32768 (chapter 5, Table 3). -/
def bandOf (w : Word16) : Nat := min w.toNat 32768

/-- The ten watch settings as stored (chapter 5, Table 3; R91). -/
def watchOf (oc : Word16) (q : Word32) (decay imbalance : Word16) (shift persistence : Byte)
    (zeroBand zeroSpeed stopTimeout : Word16) (silenceCode : Byte) : WatchSettings where
  oc := bandOf oc
  q := max q.toNat 1
  decay := decay.toNat
  imbalance := imbalance.toNat
  shift := min (max shift.toNat 4) 10
  persistence := max persistence.toNat 1
  zeroBand := bandOf zeroBand
  zeroSpeed := bandOf zeroSpeed
  stopTimeout := min (max stopTimeout.toNat 1) 600
  silenceCode := min silenceCode.toNat 7

/-- The gain set a SET GAINS carries, with its set number (R58, R59). -/
def gainsOf (kp ki : Word16) (feedforward : Byte) (uMin uMax : Word16) (number : Nat) : GainSet :=
  ⟨kp.toNat, ki.toNat, onOf feedforward, uMin.toInt, uMax.toInt, number⟩

/-- The configuration a SET CHANNEL carries (R117). -/
def configOf (enabled group : Byte) (alert danger hysteresis : Word16) (tripOnLoss : Byte) : ChannelConfig :=
  ⟨onOf enabled, groupOf group, alert.toNat, danger.toNat, hysteresis.toNat, onOf tripOnLoss⟩

/-! ### Roles (R158) -/

/-- The role of a strap code (chapter 10, Table 1). -/
def strapRole (b : BitVec 2) : Role :=
  if b = 0 then .pinionA else if b = 1 then .pinionB else if b = 2 then .plant else .monitor

/-- A lower-numbered lane has the same strap code. -/
def takenBelow (straps : Straps) (i : Lane) : Bool :=
  ([0, 1, 2, 3] : List Lane).any fun j => decide (j.val < i.val) && straps.get j == straps.get i

/-- The role and strap-conflict flag of a lane: the lowest-numbered lane strapped to a role takes it, the others become
MONITOR with the flag set (R158). -/
def settleRole (straps : Straps) (i : Lane) : Role × Bool :=
  if strapRole (straps.get i) = .monitor then (.monitor, false)
  else if takenBelow straps i then (.monitor, true)
  else (strapRole (straps.get i), false)

end Sys2Proof.Machine
end

