-- ==== Sys2Proof/Machine/ChainCommands.lean ====
section
/-! DEFINITION. The chain's events: ROUND_START (R95 to R97, R109, R110) and REPLY_WINDOW_CLOSE (R97 to R104, R110,
R111). -/

namespace Sys2Proof.Machine

/-- An expiry of the round timer; no round starts while the part is held in reset (R95, R176). -/
def State.roundTimer (s : State) : State :=
  match s.tbu.phase with
  | .held => s
  | .initialising | .working => s.startRound

/-- ROUND_START (R96). -/
def execRoundStart (s : State) : Host.Outcome State Fault Refusal := .next s.roundTimer

/-- REPLY_WINDOW_CLOSE (R102, R110). -/
def execReplyWindowClose (position : Channel) (words : List ChainWord) (s : State) :
    Host.Outcome State Fault Refusal :=
  .next (s.closeWindow position words)

end Sys2Proof.Machine
end

