-- ==== Sys2Proof/Machine/CompletionCommands.lean ====
section
/-! DEFINITION. The completions of the arithmetic: COMPUTATION_COMPLETION (R73) and LEVEL_COMPUTATION_COMPLETION (R123 to
R128). An operation that is not in progress has no completion (log entry 4). -/

namespace Sys2Proof.Machine

/-- The completion of the computation in flight (R73). -/
def State.computationCompletes (s : State) : State :=
  match s.rau.inFlight with
  | some c => s.completeComputation c
  | none => s

/-- COMPUTATION_COMPLETION (R73). -/
def execComputationCompletion (s : State) : Host.Outcome State Fault Refusal := .next s.computationCompletes

/-- The completion of a channel's level computation (R124). -/
def State.levelComputationCompletes (s : State) (channel : Channel) : State :=
  match (s.vlu.channels.get channel).computation with
  | some l => s.levelCompletes channel l
  | none => s

/-- LEVEL_COMPUTATION_COMPLETION (R124). -/
def execLevelComputationCompletion (channel : Channel) (s : State) : Host.Outcome State Fault Refusal :=
  .next (s.levelComputationCompletes channel)

end Sys2Proof.Machine
end

