-- ==== Sys2Proof/Machine/CursorCommands.lean ====
section
/-! DEFINITION. The read cursors: SET_CURSOR (R151), READ_NEXT (R153, R154), FETCH_COMPLETION (R152). -/

namespace Sys2Proof.Machine

/-- Write a lane's cursor. -/
def State.putCursor (s : State) (lane : Lane) (c : Cursor) : State := s.updLane lane fun l => { l with cursor := c }

/-- The payload of an accepted SET CURSOR (Table 6). -/
def Recorder.cursorBytes (t : Recorder) (p : CursorPlace) : List Byte :=
  [byteOf p.slot.val, pinionCode p.pinion, p.direction.code, byteOf p.index] ++ nat16 p.trip ++
    [(t.slots.get p.slot).state.code, byteOf (t.count p.slot p.pinion)]

/-- The place an accepted SET CURSOR names: the index clamped below the count (R151). -/
def Recorder.placeOf (t : Recorder) (slot : Fin 8) (k : Pinion) (index : Byte) (d : Direction) : CursorPlace :=
  ⟨slot, (t.slots.get slot).record.number, k, min index.toNat (t.count slot k - 1), d⟩

/-- The effect of SET CURSOR (R151). -/
def State.setCursor (s : State) (lane : Lane) (slot pinion index direction : Byte) : State :=
  match slotOf slot with
  | none => s.answer lane .setCursor .empty []
  | some i =>
    let k := pinionOf pinion
    if (s.trc.slots.get i).state = .free ∨ s.trc.count i k = 0 then s.answer lane .setCursor .empty []
    else
      let p := s.trc.placeOf i k index (directionOf direction)
      (s.putCursor lane (.fetching p)).answer lane .setCursor .accepted (s.trc.cursorBytes p)

/-- SET_CURSOR (R151). -/
def execSetCursor (lane : Lane) (slot pinion index direction : Byte) (s : State) :
    Host.Outcome State Fault Refusal :=
  .next (s.request lane .setCursor [slot, pinion, index, direction] fun s =>
    s.setCursor lane slot pinion index direction)

/-- The index after a step, by the count at the step (R154). -/
def stepIndex (d : Direction) (index count : Nat) : Nat :=
  match d with
  | .up => if index + 1 < count then index + 1 else 0
  | .down => if index = 0 then count - 1 else index - 1

/-- The payload of a READ NEXT answered OK (R153, Table 6). -/
def Recorder.nextBytes (t : Recorder) (p : CursorPlace) (r : Snapshot) : List Byte :=
  nat16 p.trip ++
    [byteOf p.slot.val, pinionCode p.pinion, byteOf p.index,
     flagByte (decide (((t.slots.get p.slot).record.pre.get p.pinion).length ≤ p.index)),
     byteOf (t.count p.slot p.pinion)] ++ r.bytes

/-- The cursor's place after a READ NEXT in FETCHED (R154). -/
def Recorder.stepPlace (t : Recorder) (p : CursorPlace) : CursorPlace :=
  { p with index := stepIndex p.direction p.index (t.count p.slot p.pinion) }

/-- The effect of READ NEXT (R153, R154). -/
def State.readNext (s : State) (lane : Lane) : State :=
  match (s.lanes.get lane).cursor with
  | .idle => s.answer lane .readNext .noCursor []
  | .fetching p =>
    s.answer lane .readNext .wait [byteOf p.slot.val, pinionCode p.pinion, byteOf p.index]
  | .fetched p r =>
    (s.putCursor lane (.fetching (s.trc.stepPlace p))).answer lane .readNext .ok (s.trc.nextBytes p r)
  | .gone p => (s.putCursor lane .idle).answer lane .readNext .gone ([byteOf p.slot.val] ++ nat16 p.trip)

/-- READ_NEXT (R153). -/
def execReadNext (lane : Lane) (s : State) : Host.Outcome State Fault Refusal :=
  .next (s.request lane .readNext [] fun s => s.readNext lane)

/-- The completion of a lane's fetch: the record at the cursor's index becomes the fetched record, and FETCH_DONE is
raised on this lane (R152). A lane without a fetch has no completion (log entry 4). -/
def State.fetchCompletes (s : State) (lane : Lane) : State :=
  match (s.lanes.get lane).cursor with
  | .fetching p =>
    match ((s.trc.slots.get p.slot).record.snapshots p.pinion)[p.index]? with
    | some r => (s.putCursor lane (.fetched p r)).updLane lane (·.raise .fetchDone)
    | none => s
  | .idle | .fetched _ _ | .gone _ => s

/-- FETCH_COMPLETION (R152). -/
def execFetchCompletion (lane : Lane) (s : State) : Host.Outcome State Fault Refusal :=
  .next (s.fetchCompletes lane)

end Sys2Proof.Machine
end

