-- ==== Sys2Proof/Machine/LaneCommands.lean ====
section
/-! DEFINITION. The commands of the lane itself: SELECTION_START, BAD_FRAME, PENDING_SELECTION, NOP, ACK_NOTICE,
SET_MASK (chapter 10). -/

namespace Sys2Proof.Machine

/-- SELECTION_START (R160, R162, R176). -/
def execSelectionStart (lane : Lane) (s : State) : Host.Outcome State Fault Refusal :=
  .next (s.startSelection lane)

/-- A BAD_FRAME reply: payload length 0 (R161). -/
def State.answerBadFrame (s : State) (lane : Lane) (status : Status) : State :=
  s.updLane lane fun l => { l with holder := ⟨badFrameKind, status, s.rc.drive, []⟩ }

/-- The end of a selection whose bytes fail a check of R161: not taken, and answered BAD_FRAME, unless the selection was
answered with PENDING (R162) or takes nothing (R164, R176), or no whole byte was shifted in (R160). Bytes that pass
every check spell no such event, and nothing changes (log entry 13). -/
def State.endBadFrame (s : State) (lane : Lane) (bytes : List Byte) : State :=
  match checkFrame bytes with
  | .ok _ => s
  | .error status =>
    let opened := s.openSelection lane
    let closed := opened.closeSelection lane bytes
    if (opened.lanes.get lane).selection = .holder ∧ bytes ≠ [] then closed.answerBadFrame lane status else closed

/-- BAD_FRAME (R161). -/
def execBadFrame (lane : Lane) (bytes : List Byte) (s : State) : Host.Outcome State Fault Refusal :=
  .next (s.endBadFrame lane bytes)

/-- The end of a selection answered with PENDING, also of one that a reset cut: nothing is taken and the reply holder is
not written (R162, R164, R176; log entry 31). A selection answered from the holder has no such end (log entry 4). -/
def State.endPending (s : State) (lane : Lane) (bytes : List Byte) : State :=
  let opened := s.openSelection lane
  match (opened.lanes.get lane).selection with
  | .pendingReply | .dead => opened.closeSelection lane bytes
  | .none | .holder => s

/-- PENDING_SELECTION (R162). -/
def execPendingSelection (lane : Lane) (bytes : List Byte) (s : State) : Host.Outcome State Fault Refusal :=
  .next (s.endPending lane bytes)

/-- NOP (R163). -/
def execNop (lane : Lane) (s : State) : Host.Outcome State Fault Refusal :=
  .next (s.request lane .nop [] fun s => s.answer lane .nop .ok [])

/-- The notice set and mask of a lane (R167, R168). -/
def State.noticeBytes (s : State) (lane : Lane) : List Byte := [(s.lanes.get lane).notices, (s.lanes.get lane).mask]

/-- The notice kind a byte 0..7 names (R167). -/
def noticeOf (b : Byte) : Option Notice := noticeKinds[b.toNat]?

/-- The effect of ACK NOTICE (R167). -/
def State.ackNotice (s : State) (lane : Lane) (kind : Byte) : State :=
  let s₁ :=
    match noticeOf kind with
    | some k => s.updLane lane (·.acknowledge k)
    | none => s
  s₁.answer lane .ackNotice .ok (s₁.noticeBytes lane)

/-- ACK_NOTICE (R167). -/
def execAckNotice (lane : Lane) (kind : Byte) (s : State) : Host.Outcome State Fault Refusal :=
  .next (s.request lane .ackNotice [kind] fun s => s.ackNotice lane kind)

/-- The effect of SET MASK (R168). -/
def State.setMask (s : State) (lane : Lane) (mask : Byte) : State :=
  let s₁ := s.updLane lane fun l => { l with mask := mask }
  s₁.answer lane .setMask .ok (s₁.noticeBytes lane)

/-- SET_MASK (R168). -/
def execSetMask (lane : Lane) (mask : Byte) (s : State) : Host.Outcome State Fault Refusal :=
  .next (s.request lane .setMask [mask] fun s => s.setMask lane mask)

end Sys2Proof.Machine
end

