-- ==== Sys2Proof/Machine/ReadCommands.lean ====
section
/-! DEFINITION. The read requests: READ_STATUS (R170), READ_IDENT (R171), READ_LIMITS (R54, R79), READ_CHANNEL (R131),
READ_NODE (R114), READ_TRIP_SUMMARY (R145). Payload layouts: R159, Table 6. -/

namespace Sys2Proof.Machine

/-- The 26 bytes of READ STATUS (R170). -/
def State.statusPayload (s : State) : List Byte :=
  [s.rc.byte, s.partByte, s.tbu.causes.byte] ++ be32 s.tbu.time ++ nat16 s.trc.tripCount ++
    captureBytes s.capture ++ nat32 s.dwu.ol.a ++ nat32 s.dwu.ol.b ++
    nat16 (min (imbalanceLevel s.dwu.filter) 65535) ++ [byteOf s.dwu.runCount]

/-- READ_STATUS (R170). -/
def execReadStatus (lane : Lane) (s : State) : Host.Outcome State Fault Refusal :=
  .next (s.request lane .readStatus [] fun s => s.answer lane .readStatus .ok s.statusPayload)

/-- The 6 bytes of READ IDENT (R171). -/
def State.identPayload (s : State) (lane : Lane) : List Byte :=
  be16 Config.partCode ++
    [Config.revision, byteOf lane.val, (s.lanes.get lane).role.code, flagByte (s.lanes.get lane).conflict]

/-- READ_IDENT (R171). -/
def execReadIdent (lane : Lane) (s : State) : Host.Outcome State Fault Refusal :=
  .next (s.request lane .readIdent [] fun s => s.answer lane .readIdent .ok (s.identPayload lane))

/-- One pinion's part of the state page (R54). -/
def ShareLimit.pageOf (u : ShareLimit) (k : Pinion) : List Byte :=
  nat16 (u.target.get k) ++ nat16 (u.limit.get k) ++ int16 (u.raw.get k) ++ int16 (u.iref.get k) ++
    [flagByte (u.limited.get k)]

/-- The number of the staged set, 0 when it is absent (R79, R159). -/
def stagedNumber : Option StagedSet → Nat
  | some g => g.gains.number
  | none => 0

/-- The 27 bytes of the state page of READ LIMITS (R54, R79). -/
def State.limitsStatePage (s : State) : List Byte :=
  [pinionCode s.slu.lead] ++ int16 s.slu.offset ++ s.slu.pageOf .a ++ s.slu.pageOf .b ++
    [s.sourceByte .a, s.sourceByte .b, byteOf s.crg.applied.a.number, byteOf s.crg.applied.b.number,
     byteOf (stagedNumber s.crg.staged), pendingMarks s.crg.staged]

/-- The six limit settings as stored (R53, R54). -/
def ShareLimit.settings (u : ShareLimit) : List Byte :=
  nat16 u.plant ++ nat16 u.ceil.a ++ nat16 u.ceil.b ++ nat16 u.derate ++ nat16 u.inch ++ nat16 u.rampStep

/-- The page of READ LIMITS that a page byte selects (R54). -/
def State.limitsPage (s : State) (page : Option Byte) : List Byte :=
  if firstPage page then s.limitsStatePage else s.slu.settings

/-- READ_LIMITS (R54). -/
def execReadLimits (lane : Lane) (page : Option Byte) (s : State) : Host.Outcome State Fault Refusal :=
  .next (s.request lane .readLimits (optionalByte page) fun s => s.answer lane .readLimits .ok (s.limitsPage page))

/-- The configuration and state byte of READ CHANNEL (Table 6). -/
def ChannelEntry.stateByte (c : ChannelEntry) : Byte :=
  packBits [c.config.enabled, c.config.tripOnLoss] ||| (c.config.group.code <<< 2) ||| (c.state.code <<< 4) |||
    (packBits [c.computation.isSome, c.record.isSome] <<< 6)

/-- Two counters of 0..15 in one byte. -/
def nibbles (high low : Nat) : Byte := (byteOf high <<< 4) ||| byteOf low

/-- The suspect byte of READ CHANNEL (Table 6); an absent record has no SUSPECT flag (log entry 10). -/
def ChannelEntry.suspectByte (c : ChannelEntry) : Byte :=
  byteOf c.suspectRun ||| (match c.record with
    | some r => flagByte r.suspect <<< 2
    | none => 0)

/-- The level record of READ CHANNEL, 0 when it is absent (Table 6). -/
def levelBytes : Option LevelRecord → List Byte
  | some r => nat16 r.rms ++ be16 r.seq ++ be32 r.time
  | none => nat16 0 ++ be16 0 ++ be32 0

/-- The settings field of READ CHANNEL (Table 6). -/
def Vibration.settingsWord (v : Vibration) : Word16 :=
  BitVec.ofNat 16 (v.windowCode * 4096 + v.na * 256 + v.nd * 16 + v.nc)

/-- The 27 bytes of READ CHANNEL (R131). -/
def Vibration.channelPage (v : Vibration) (i : Channel) : List Byte :=
  let c := v.channels.get i
  [byteOf i.val, c.stateByte] ++ nat16 c.config.alert ++ nat16 c.config.danger ++ nat16 c.config.hysteresis ++
    [nibbles c.runs.a c.runs.g, nibbles c.runs.c c.runs.cd, c.suspectByte] ++ nat16 c.count ++ nat16 c.subs ++
    int16 c.held ++ levelBytes c.record ++ be16 v.settingsWord

/-- READ_CHANNEL (R131). -/
def execReadChannel (lane : Lane) (channel : Byte) (s : State) : Host.Outcome State Fault Refusal :=
  .next (s.request lane .readChannel [channel] fun s =>
    s.answer lane .readChannel .ok (s.vlu.channelPage (indexOf channel)))

/-- The node entry part of READ NODE (Table 6). -/
def SensorChain.nodeBytes (n : SensorChain) (i : Fin 8) : List Byte :=
  let e := n.nodes.get i
  [byteOf i.val, e.state.code] ++
    (match e.identity with
     | some code => nat16 code.toNat
     | none => nat16 65535) ++
    nat16 (Config.nominal i) ++ nat16 e.expected ++ [byteOf e.miss] ++ nat16 e.parity ++ nat16 e.misalign

/-- The discovery part of READ NODE: count, search position and search rounds, 0 while none runs (Table 6). -/
def discoveryBytes : Option Discovery → List Byte
  | none => [0, 0, 0, 0]
  | some d =>
    match d.step with
    | .clear _ => [1, byteOf d.count, 8, 0]
    | .search n rounds => [1, byteOf d.count, byteOf n.val, byteOf rounds]

/-- The last result of READ NODE. The two counts are stated for a found count only; otherwise they are free values
(Table 6; log entry 11). -/
def lastResultBytes (fresh : Nat) : LastResult → List Byte
  | .none => [0, Config.freeByte (2 * fresh), Config.freeByte (2 * fresh + 1)]
  | .running => [1, Config.freeByte (2 * fresh), Config.freeByte (2 * fresh + 1)]
  | .foundOf found count => [2, byteOf found, byteOf count]

/-- The span byte of READ NODE: 15 for none (Table 6). -/
def spanByte : Option (Fin 8) → Byte
  | some c => byteOf c.val
  | none => 15

/-- The 22 bytes of READ NODE (R114). -/
def State.nodePage (s : State) (i : Fin 8) : List Byte :=
  s.scc.nodeBytes i ++ [s.scc.rate.code, spanByte s.scc.lastSpan] ++ discoveryBytes s.scc.discovery ++
    lastResultBytes s.openReads s.scc.lastResult

/-- READ_NODE (R114). The counter of free values advances (log entry 11). -/
def execReadNode (lane : Lane) (position : Byte) (s : State) : Host.Outcome State Fault Refusal :=
  .next (s.request lane .readNode [position] fun s =>
    (s.answer lane .readNode .ok (s.nodePage (indexOf position))).nextOpenRead)

/-- Page 0 of a slot's record (R145). -/
def TripRecord.page0 (x : TripRecord) : List Byte :=
  be32 x.time ++ [x.before.code] ++ x.cause.bytes ++ nat32 x.value ++ nat32 x.limit ++ nat16 x.limits.a ++
    nat16 x.limits.b ++ [flagByte x.cutShort, byteOf x.pre.a.length, byteOf x.post.a.length,
      byteOf x.pre.b.length, byteOf x.post.b.length]

/-- The i-th later cause of a record, 255, 255 when the list is shorter (Table 6). -/
def TripRecord.laterBytes (x : TripRecord) (i : Nat) : List Byte :=
  match x.later[i]? with
  | some c => c.bytes
  | none => [255, 255]

/-- Page 1 of a slot's record (R145). -/
def TripRecord.page1 (x : TripRecord) (tripCount : Nat) : List Byte :=
  [byteOf x.later.length, flagByte x.more] ++ x.laterBytes 0 ++ x.laterBytes 1 ++ x.laterBytes 2 ++
    x.laterBytes 3 ++ x.channels.toList.map ChannelState.code ++ nat16 tripCount

/-- A page of a slot: slot state and trip number, then the page (R145). -/
def Recorder.slotPage (t : Recorder) (i : Fin 8) (page : Option Byte) : List Byte :=
  let x := t.slots.get i
  [x.state.code] ++ nat16 x.record.number ++
    (if firstPage page then x.record.page0 else x.record.page1 t.tripCount)

/-- The overflow summary of the index, 0 when it is empty (Table 6). -/
def overflowBytes : Option Overflow → List Byte
  | some o => [1] ++ nat16 o.number ++ be32 o.time ++ o.cause.bytes
  | none => [0] ++ nat16 0 ++ be32 0 ++ [0, 0]

/-- The unrecorded count of the index, one of the summary's fields (Table 6). -/
def Recorder.unrecordedByte (t : Recorder) : Byte := if t.overflow.isSome then byteOf t.unrecorded else 0

/-- The 20 bytes of the table's index (R145). -/
def Recorder.index (t : Recorder) : List Byte :=
  nat16 t.tripCount ++ t.slots.toList.map (fun x => x.state.code) ++ overflowBytes t.overflow ++ [t.unrecordedByte]

/-- A CLOSED record read from the PLANT lane becomes READ (R145). -/
def State.markRead (s : State) (lane : Lane) (i : Fin 8) : State :=
  if (s.lanes.get lane).role = .plant ∧ (s.trc.slots.get i).state = .closed then
    s.updTrc fun t => t.setSlotState i .read
  else s

/-- The effect of READ TRIP SUMMARY (R145). -/
def State.readSummary (s : State) (lane : Lane) (slot : Byte) (page : Option Byte) : State :=
  match slotOf slot with
  | some i =>
    if (s.trc.slots.get i).state = .free then s.answer lane .readTripSummary .empty []
    else
      let s₁ := s.markRead lane i
      s₁.answer lane .readTripSummary .ok (s₁.trc.slotPage i page)
  | none =>
    if slot = 8 then s.answer lane .readTripSummary .ok s.trc.index
    else s.answer lane .readTripSummary .empty []

/-- READ_TRIP_SUMMARY (R145). -/
def execReadTripSummary (lane : Lane) (slot : Byte) (page : Option Byte) (s : State) :
    Host.Outcome State Fault Refusal :=
  .next (s.request lane .readTripSummary (slot :: optionalByte page) fun s => s.readSummary lane slot page)

end Sys2Proof.Machine
end

