-- ==== Sys2Proof/Machine/ResetCommands.lean ====
section
/-! DEFINITION. The resets and the initialisation: RESET (R175), POWER_ON (R174, R148), RESET_PIN and
RESET_PIN_RELEASE (R176), INITIALISATION_END (R176). -/

namespace Sys2Proof.Machine

/-- A lane after a reset: its reset values, and a selection in progress that will take no request (R164). The frame
already fixed for shifting out is not touched (log entry 9). -/
def LaneState.afterReset (l : LaneState) (role : Role) (conflict : Bool) : LaneState :=
  { LaneState.reset role conflict with
    selection := if l.selection = .none then .none else .dead
    dataOut := l.dataOut }

/-- Every lane after a reset that settles the roles from these straps (R158, R164). -/
def settledLanes (lanes : Four LaneState) (straps : Straps) : Four LaneState :=
  lanes.map fun i l => l.afterReset (settleRole straps i).1 (settleRole straps i).2

/-- Every lane after a reset that holds the part: the roles stay until the straps are read at the release (R176; log
entry 20). -/
def heldLanes (lanes : Four LaneState) : Four LaneState := lanes.map fun _ l => l.afterReset l.role l.conflict

/-- A slot after a pin reset or plant reset: a FILLING record becomes CLOSED with CUT_SHORT (R149). -/
def Slot.afterReset (x : Slot) : Slot :=
  if x.state = .filling then ⟨.closed, { x.record with cutShort := true }⟩ else x

/-- The trip recorder after a pin reset or plant reset: the trip table, the trip count and the overflow summary stay
(R149, R136). -/
def Recorder.afterReset (t : Recorder) : Recorder :=
  { Recorder.powerOn with
    slots := t.slots.map fun _ x => x.afterReset
    tripCount := t.tripCount
    overflow := t.overflow
    unrecorded := t.unrecorded }

/-- The part with every block at its reset values (R22, R36, R55, R78, R94, R115, R132, R165, R172). The command queue
and the counter of free values are the model's own and go on. -/
def State.blocksReset (s : State) (lanes : Four LaneState) (configs : Eight ChannelConfig) (trc : Recorder)
    (causes : ResetCauses) (phase : Phase) : State where
  pending := s.pending
  openReads := s.openReads
  lanes := lanes
  capture := none
  rc := .reset
  slu := .reset
  crg := .reset
  rau := .reset
  dwu := .reset
  scc := .reset
  vlu := .reset configs
  trc := trc
  tbu := ⟨0, causes, phase⟩

/-- The channel configurations as they stand; a pin reset and a plant reset keep them (R116, R132). -/
def Vibration.configs (v : Vibration) : Eight ChannelConfig := v.channels.map fun _ c => c.config

/-- A reset other than power-on (R149, R175, R176). -/
def State.warmReset (s : State) (lanes : Four LaneState) (causes : ResetCauses) (phase : Phase) : State :=
  s.blocksReset lanes s.vlu.configs s.trc.afterReset causes phase

/-- The effect of RESET (R175). -/
def State.plantReset (s : State) (lane : Lane) (straps : Straps) : State :=
  if s.rc.drive = .halt ∨ s.rc.drive = .tripped then
    s.warmReset (settledLanes s.lanes straps) { s.tbu.causes with plantReset := true } .initialising
  else s.answer lane .reset .badState []

/-- RESET (R175). -/
def execReset (lane : Lane) (straps : Straps) (s : State) : Host.Outcome State Fault Refusal :=
  .next (s.request lane .reset [] fun s => s.plantReset lane straps)

/-- The supply rises: one power-on reset, held until the release where the reset pin is low through it (R174, R176,
R148). -/
def State.powerUp (s : State) (straps : Straps) (pinLow : Bool) : State :=
  if pinLow then s.blocksReset (heldLanes s.lanes) (.const .default) .powerOn ⟨true, false, false⟩ .held
  else s.blocksReset (settledLanes s.lanes straps) (.const .default) .powerOn ⟨true, false, false⟩ .initialising

/-- POWER_ON (R174). -/
def execPowerOn (straps : Straps) (pinLow : Bool) (s : State) : Host.Outcome State Fault Refusal :=
  .next (s.powerUp straps pinLow)

/-- The reset pin has been low for 2 µs: the part is reset and held (R176). While the pin stays low it cannot fall
again (log entry 4). -/
def State.pinReset (s : State) : State :=
  match s.tbu.phase with
  | .held => s
  | .initialising | .working => s.warmReset (heldLanes s.lanes) { s.tbu.causes with resetPin := true } .held

/-- RESET_PIN (R176). -/
def execResetPin (s : State) : Host.Outcome State Fault Refusal := .next s.pinReset

/-- The release of the reset pin: the straps are read, and the initialisation starts, with every lane at its reset values
again: a selection that ended while the pin was low has left bytes in its receiver (R164, R176). No other block can have
changed since the pin's fall. -/
def State.pinRelease (s : State) (straps : Straps) : State :=
  match s.tbu.phase with
  | .held => (s.updLanes fun t => settledLanes t straps).updTbu fun t => { t with phase := .initialising }
  | .initialising | .working => s

/-- RESET_PIN_RELEASE (R176). -/
def execResetPinRelease (straps : Straps) (s : State) : Host.Outcome State Fault Refusal :=
  .next (s.pinRelease straps)

/-- The end of the initialisation: STATE on every lane (R176). -/
def State.endInitialisation (s : State) : State :=
  match s.tbu.phase with
  | .initialising => (s.updTbu fun t => { t with phase := .working }).raiseAll .state
  | .held | .working => s

/-- INITIALISATION_END (R176). -/
def execInitialisationEnd (s : State) : Host.Outcome State Fault Refusal := .next s.endInitialisation

end Sys2Proof.Machine
end

