-- ==== Sys2Proof/Machine/RunCommands.lean ====
section
/-! DEFINITION. The converter's requests and the requests to run control: SAMPLE (R10 to R13, R64, R77), ACK_TRIP (R19),
TRIP (R18), ARM (R3), DISARM (R4), START and INCH (R5), STOP (R6), CLEAR_TRIP (R20, R21). -/

namespace Sys2Proof.Machine

/-- The effect of a SAMPLE that reaches run control: an arrival of the pinion whose lane carries it (R10). -/
def State.takeSample (s : State) (lane : Lane) (iMeas n : Word16) (counter bridge : Byte) (demand : Option Word16) :
    State :=
  match (s.lanes.get lane).role.pinion? with
  | some k => s.sampleArrives lane k iMeas n counter bridge demand
  | none => s

/-- SAMPLE (R10, R64). -/
def execSample (lane : Lane) (iMeas n : Word16) (counter bridge : Byte) (demand : Option Word16) (s : State) :
    Host.Outcome State Fault Refusal :=
  .next (s.request lane .sample (samplePayload iMeas n counter bridge demand) fun s =>
    s.takeSample lane iMeas n counter bridge demand)

/-- The acknowledge mark of pinion k is set (R19). -/
def RunControl.acknowledged (r : RunControl) (k : Pinion) : RunControl := { r with ack := r.ack.set k true }

/-- The effect of ACK TRIP (R19). -/
def State.ackTrip (s : State) (lane : Lane) : State :=
  if s.rc.drive = .tripped then
    match (s.lanes.get lane).role.pinion? with
    | some k => (s.updRc fun r => r.acknowledged k).answer lane .ackTrip .ok []
    | none => s
  else s.answer lane .ackTrip .badState []

/-- ACK_TRIP (R19). -/
def execAckTrip (lane : Lane) (s : State) : Host.Outcome State Fault Refusal :=
  .next (s.request lane .ackTrip [] fun s => s.ackTrip lane)

/-- TRIP (R18): trip COMMANDED(lane), or a later cause in TRIPPED, answered OK either way. -/
def execTrip (lane : Lane) (s : State) : Host.Outcome State Fault Refusal :=
  .next (s.request lane .trip [] fun s => (s.reportTrip (.commanded lane) 0 0 none).answer lane .trip .ok [])

/-- Both pinion roles are held by a lane (R3). -/
def State.rolesPresent (s : State) : Bool := s.hasRole .pinionA && s.hasRole .pinionB

/-- Channel c is enabled with trip-on-loss set (R3, R20, R129). -/
def State.guards (s : State) (c : Channel) : Bool :=
  (s.vlu.channels.get c).config.enabled && (s.vlu.channels.get c).config.tripOnLoss

/-- Every enabled channel with trip-on-loss set has its node LOCKED (R3). -/
def State.chainComplete (s : State) : Bool :=
  eightIndexes.all fun c => !s.guards c || (s.scc.nodes.get c).state == .locked

/-- The effect of ARM (R3). -/
def State.arm (s : State) (lane : Lane) : State :=
  if s.rc.drive ≠ .halt then s.answer lane .arm .badState []
  else if s.rolesPresent = false then s.answer lane .arm .missingRole []
  else if s.chainComplete = false then s.answer lane .arm .chainIncomplete []
  else (s.moveTo .ready).answer lane .arm .ok []

/-- ARM (R3). -/
def execArm (lane : Lane) (s : State) : Host.Outcome State Fault Refusal :=
  .next (s.request lane .arm [] fun s => s.arm lane)

/-- The effect of DISARM (R4). -/
def State.disarm (s : State) (lane : Lane) : State :=
  if s.rc.drive ≠ .ready then s.answer lane .disarm .badState []
  else ((s.enterRest .halt).raiseAll .state).answer lane .disarm .ok []

/-- DISARM (R4). -/
def execDisarm (lane : Lane) (s : State) : Host.Outcome State Fault Refusal :=
  .next (s.request lane .disarm [] fun s => s.disarm lane)

/-- A pinion has a latest-sample record with its ready flag set and is not silent (R5). -/
def RunControl.startable (r : RunControl) (k : Pinion) : Bool := latestFlag (r.latest.get k) (·.ready) && !r.silent.get k

/-- Why a START or INCH is refused, if it is (R5). -/
def State.startRefusal (s : State) : Option Status :=
  if s.rc.drive ≠ .ready then some .badState
  else if s.rolesPresent = false then some .missingRole
  else if (s.rc.startable .a && s.rc.startable .b) = false then some .notReady
  else none

/-- The imbalance filter and its run count start again from 0 (R90). -/
def DriveWatch.clearImbalance (w : DriveWatch) : DriveWatch := { w with filter := 0, runCount := 0 }

/-- The effect of START (R5, R90). -/
def State.start (s : State) (lane : Lane) : State :=
  match s.startRefusal with
  | some status => s.answer lane .start status []
  | none => ((s.updDwu DriveWatch.clearImbalance).moveTo .run).answer lane .start .ok []

/-- START (R5). -/
def execStart (lane : Lane) (s : State) : Host.Outcome State Fault Refusal :=
  .next (s.request lane .start [] fun s => s.start lane)

/-- The effect of INCH (R5). -/
def State.inching (s : State) (lane : Lane) : State :=
  match s.startRefusal with
  | some status => s.answer lane .inch status []
  | none => (s.moveTo .inch).answer lane .inch .ok []

/-- INCH (R5). -/
def execInch (lane : Lane) (s : State) : Host.Outcome State Fault Refusal :=
  .next (s.request lane .inch [] fun s => s.inching lane)

/-- The stop timer starts with the stop timeout in force (R6). -/
def State.startStopTimer (s : State) : State := s.updRc fun r => { r with stopTimer := some s.dwu.watch.stopTimeout }

/-- The effect of STOP (R6, R90). -/
def State.stop (s : State) (lane : Lane) : State :=
  match s.rc.drive with
  | .run => (s.startStopTimer.moveTo .stopping).answer lane .stop .ok []
  | .inch => ((s.startStopTimer.updDwu DriveWatch.clearImbalance).moveTo .stopping).answer lane .stop .ok []
  | .halt | .ready | .stopping | .tripped => s.answer lane .stop .badState []

/-- STOP (R6). -/
def execStop (lane : Lane) (s : State) : Host.Outcome State Fault Refusal :=
  .next (s.request lane .stop [] fun s => s.stop lane)

/-- Pinion k is at rest: silent, or acknowledged with a latest current within the zero band (R20). -/
def State.atRest (s : State) (k : Pinion) : Bool :=
  s.rc.silent.get k ||
    (s.rc.ack.get k && decide (magnitude (latestCurrent (s.rc.latest.get k)) ≤ s.dwu.watch.zeroBand))

/-- OL_k is at least half of Q (R20, R86). -/
def DriveWatch.loaded (w : DriveWatch) (k : Pinion) : Bool := decide (w.watch.q ≤ 2 * w.ol.get k)

/-- An active cause remains (R20). -/
def State.activeCause (s : State) : Bool :=
  (eightIndexes.any fun c => (s.vlu.channels.get c).state == .danger) ||
    (eightIndexes.any fun c => s.guards c && (s.scc.nodes.get c).state == .lost) ||
    (s.dwu.loaded .a || s.dwu.loaded .b) ||
    (latestFlag s.rc.latest.a (·.fault) || latestFlag s.rc.latest.b (·.fault))

/-- Why a CLEAR TRIP is refused, if it is (R2, R20). -/
def State.clearRefusal (s : State) : Option Status :=
  if s.rc.drive ≠ .tripped then some .badState
  else if s.trc.fillingSlot.isSome then some .filling
  else if (s.atRest .a && s.atRest .b) = false then some .notReady
  else if s.activeCause then some .activeCause
  else none

/-- Both acknowledge marks clear (R15, R21). -/
def RunControl.clearAcks (r : RunControl) : RunControl := { r with ack := .both false }

/-- The effect of CLEAR TRIP (R20, R21). -/
def State.clearTrip (s : State) (lane : Lane) : State :=
  match s.clearRefusal with
  | some status => s.answer lane .clearTrip status []
  | none => (((s.updRc RunControl.clearAcks).enterRest .halt).raiseAll .state).answer lane .clearTrip .ok []

/-- CLEAR_TRIP (R20). -/
def execClearTrip (lane : Lane) (s : State) : Host.Outcome State Fault Refusal :=
  .next (s.request lane .clearTrip [] fun s => s.clearTrip lane)

end Sys2Proof.Machine
end

