-- ==== Sys2Proof/Machine/SettingCommands.lean ====
section
/-! DEFINITION. The plant's settings and housekeeping: SET_LIMITS (R52, R53), SET_GAINS (R59 to R62), SET_SHARE (R24),
SET_WATCH (R85, R91), SET_CHANNEL (R117, R118), SET_CHAIN (R113, R119), DISCOVER (R108, R109), RELEASE (R146),
SET_TIME (R173), CLEAR_CAPTURE (R165), CLEAR_CAUSES (R174). Reply payloads: R159, Table 6. -/

namespace Sys2Proof.Machine

/-- The six limit settings of an accepted SET LIMITS, after bounding (R52, R53). -/
def ShareLimit.withSettings (u : ShareLimit) (plant ceilA ceilB derate inchCeiling rampStep : Word16) : ShareLimit :=
  { u with
    plant := ceilingOf plant
    ceil := ⟨ceilingOf ceilA, ceilingOf ceilB⟩
    derate := ceilingOf derate
    inch := ceilingOf inchCeiling
    rampStep := rampStepOf rampStep }

/-- The effect of SET LIMITS (R53). -/
def State.setLimits (s : State) (lane : Lane) (plant ceilA ceilB derate inchCeiling rampStep : Word16) : State :=
  if ceilingOf plant < ceilingOf derate then s.answer lane .setLimits .range []
  else
    let s₁ := (s.updSlu fun u => u.withSettings plant ceilA ceilB derate inchCeiling rampStep).retarget
    s₁.answer lane .setLimits .ok s₁.slu.settings

/-- SET_LIMITS (R53). -/
def execSetLimits (lane : Lane) (plant ceilA ceilB derate inchCeiling rampStep : Word16) (s : State) :
    Host.Outcome State Fault Refusal :=
  .next (s.request lane .setLimits (limitsPayload plant ceilA ceilB derate inchCeiling rampStep) fun s =>
    s.setLimits lane plant ceilA ceilB derate inchCeiling rampStep)

/-- An accepted gain set: applied to both channels outside regulation (R60), staged with both marks set in it
(R61, R62). -/
def Regulators.accept (r : Regulators) (g : GainSet) (staged : Bool) : Regulators :=
  if staged then { r with staged := some ⟨g, .both true⟩, lastSet := g.number }
  else { r with applied := .both g, staged := none, lastSet := g.number }

/-- The payload of an accepted SET GAINS (Table 6). -/
def GainSet.bytes (g : GainSet) (staged : Bool) : List Byte :=
  nat16 g.kp ++ nat16 g.ki ++ [flagByte g.feedforward] ++ int16 g.uMin ++ int16 g.uMax ++
    [byteOf g.number, flagByte staged, flagByte staged]

/-- The effect of SET GAINS (R59). -/
def State.setGains (s : State) (lane : Lane) (kp ki : Word16) (feedforward : Byte) (uMin uMax : Word16) : State :=
  if 0 < uMin.toInt ∨ uMax.toInt < 0 then s.answer lane .setGains .range []
  else
    let g := gainsOf kp ki feedforward uMin uMax (nextSetNumber s.crg.lastSet)
    let staged := s.rc.drive.regulating
    (s.updCrg fun r => r.accept g staged).answer lane .setGains .ok (g.bytes staged)

/-- SET_GAINS (R59). -/
def execSetGains (lane : Lane) (kp ki : Word16) (feedforward : Byte) (uMin uMax : Word16) (s : State) :
    Host.Outcome State Fault Refusal :=
  .next (s.request lane .setGains (gainsPayload kp ki feedforward uMin uMax) fun s =>
    s.setGains lane kp ki feedforward uMin uMax)

/-- The split settings an accepted SET SHARE writes (R24). -/
def ShareLimit.withShare (u : ShareLimit) (lead : Byte) (offset : Word16) : ShareLimit :=
  { u with lead := pinionOf lead, offset := offsetOf offset }

/-- The effect of SET SHARE (R24). -/
def State.setShare (s : State) (lane : Lane) (lead : Byte) (offset : Word16) : State :=
  (s.updSlu fun u => u.withShare lead offset).answer lane .setShare .ok
    (pinionCode (pinionOf lead) :: int16 (offsetOf offset))

/-- SET_SHARE (R24). -/
def execSetShare (lane : Lane) (lead : Byte) (offset : Word16) (s : State) : Host.Outcome State Fault Refusal :=
  .next (s.request lane .setShare (lead :: be16 offset) fun s => s.setShare lane lead offset)

/-- The comparison of OL_k with a new Q: a sum at or above it is set to it and reported as OVERLOAD (R85). -/
def State.compareOverload (s : State) (k : Pinion) : State :=
  if s.dwu.watch.q ≤ s.dwu.ol.get k then
    let s₁ := s.updDwu fun w => { w with ol := w.ol.set k w.watch.q }
    s₁.reportTrip (.overload k) s.dwu.watch.q s.dwu.watch.q none
  else s

/-- The ten watch settings as bytes, in the order and width of chapter 5, Table 3. -/
def WatchSettings.bytes (w : WatchSettings) : List Byte :=
  nat16 w.oc ++ nat32 w.q ++ nat16 w.decay ++ nat16 w.imbalance ++ [byteOf w.shift, byteOf w.persistence] ++
    nat16 w.zeroBand ++ nat16 w.zeroSpeed ++ nat16 w.stopTimeout ++ [byteOf w.silenceCode]

/-- The effect of SET WATCH with its fields bounded: all ten written together, then the sums of A and of B compared
(R85, R91). -/
def State.setWatch (s : State) (lane : Lane) (w : WatchSettings) : State :=
  let s₁ := ((s.updDwu fun d => { d with watch := w }).compareOverload .a).compareOverload .b
  s₁.answer lane .setWatch .ok (w.bytes ++ nat32 s₁.dwu.ol.a ++ nat32 s₁.dwu.ol.b)

/-- SET_WATCH (R91). -/
def execSetWatch (lane : Lane) (oc : Word16) (q : Word32) (decay imbalance : Word16) (shift persistence : Byte)
    (zeroBand zeroSpeed stopTimeout : Word16) (silenceCode : Byte) (s : State) :
    Host.Outcome State Fault Refusal :=
  .next (s.request lane .setWatch
    (watchPayload oc q decay imbalance shift persistence zeroBand zeroSpeed stopTimeout silenceCode) fun s =>
    s.setWatch lane (watchOf oc q decay imbalance shift persistence zeroBand zeroSpeed stopTimeout silenceCode))

/-- A channel entry under a new configuration: disabling forgets, everything else keeps (R118). -/
def ChannelEntry.configure (c : ChannelEntry) (g : ChannelConfig) : ChannelEntry :=
  if c.config.enabled = true ∧ g.enabled = false then { c.forget with config := g } else { c with config := g }

/-- The payload of an accepted SET CHANNEL (Table 6). -/
def ChannelEntry.configBytes (c : ChannelEntry) (i : Channel) : List Byte :=
  [byteOf i.val, flagByte c.config.enabled, c.config.group.code] ++ nat16 c.config.alert ++
    nat16 c.config.danger ++ nat16 c.config.hysteresis ++ [flagByte c.config.tripOnLoss, c.state.code]

/-- The effect of SET CHANNEL on channel i (R117, R118, R128). -/
def State.setChannel (s : State) (lane : Lane) (i : Channel) (g : ChannelConfig) : State :=
  if g.alert < g.danger ∧ g.hysteresis < g.alert then
    let before := (s.vlu.channels.get i).state
    let s₁ := s.updVlu fun v => v.updChannel i fun c => c.configure g
    let s₂ := (s₁.noteMove i before).retarget
    s₂.answer lane .setChannel .ok ((s₂.vlu.channels.get i).configBytes i)
  else s.answer lane .setChannel .range []

/-- SET_CHANNEL (R117). -/
def execSetChannel (lane : Lane) (channel enabled group : Byte) (alert danger hysteresis : Word16)
    (tripOnLoss : Byte) (s : State) : Host.Outcome State Fault Refusal :=
  .next (s.request lane .setChannel
    (channelPayload channel enabled group alert danger hysteresis tripOnLoss) fun s =>
    s.setChannel lane (indexOf channel) (configOf enabled group alert danger hysteresis tripOnLoss))

/-- The vibration settings of SET CHAIN; a change of W empties every window (R119). -/
def Vibration.configure (v : Vibration) (window na nd nc : Byte) : Vibration where
  channels :=
    if windowOf window = v.windowCode then v.channels else v.channels.map fun _ c => c.emptyWindow
  windowCode := windowOf window
  na := persistenceOf na
  nd := persistenceOf nd
  nc := persistenceOf nc

/-- The effect of SET CHAIN (R113, R119). -/
def State.setChain (s : State) (lane : Lane) (rate window na nd nc : Byte) : State :=
  ((s.updScc fun n => { n with rate := rateOf rate }).updVlu fun v => v.configure window na nd nc).answer lane
    .setChain .ok [(rateOf rate).code, byteOf (windowOf window), byteOf (persistenceOf na),
      byteOf (persistenceOf nd), byteOf (persistenceOf nc)]

/-- SET_CHAIN (R113, R119). -/
def execSetChain (lane : Lane) (rate window na nd nc : Byte) (s : State) : Host.Outcome State Fault Refusal :=
  .next (s.request lane .setChain [rate, window, na, nd, nc] fun s => s.setChain lane rate window na nd nc)

/-- The chain controller at the acceptance of DISCOVER: every entry ABSENT, and the clear round next (R109). -/
def SensorChain.discover (n : SensorChain) (count : Nat) : SensorChain :=
  { n with
    nodes := NodeEntry.resetTable
    discovery := some ⟨count, .clear false, 0⟩
    lastResult := .running }

/-- The hand-over of a discovery's start to the VLU (R109, R128, R130). -/
def State.forgetChannels (s : State) : State :=
  let s₁ := s.updVlu Vibration.forgetEnabled
  if s.vlu.anyKnown then s₁.channelMoved else s₁.retarget

/-- The effect of DISCOVER (R108, R109). -/
def State.discover (s : State) (lane : Lane) (count : Byte) : State :=
  if s.rc.drive.regulating then s.answer lane .discover .badState []
  else if s.scc.discovery.isSome then s.answer lane .discover .busy []
  else
    ((s.updScc fun n => n.discover (discoveryCountOf count)).forgetChannels).answer lane .discover .accepted
      [byteOf (discoveryCountOf count)]

/-- DISCOVER (R108). -/
def execDiscover (lane : Lane) (count : Byte) (s : State) : Host.Outcome State Fault Refusal :=
  .next (s.request lane .discover [count] fun s => s.discover lane count)

/-- RELEASE of slot 8: the overflow summary empty, the unrecorded count 0 (R146). -/
def Recorder.clearOverflow (t : Recorder) : Recorder := { t with overflow := none, unrecorded := 0 }

/-- The effect of RELEASE (R146). -/
def State.release (s : State) (lane : Lane) (slot : Byte) : State :=
  match slotOf slot with
  | some i =>
    match (s.trc.slots.get i).state with
    | .closed | .read => (s.updTrc fun t => t.setSlotState i .free).answer lane .release .ok []
    | .filling => s.answer lane .release .filling []
    | .free => s.answer lane .release .empty []
  | none =>
    if slot = 8 then (s.updTrc Recorder.clearOverflow).answer lane .release .ok []
    else s.answer lane .release .empty []

/-- RELEASE (R146). -/
def execRelease (lane : Lane) (slot : Byte) (s : State) : Host.Outcome State Fault Refusal :=
  .next (s.request lane .release [slot] fun s => s.release lane slot)

/-- SET_TIME (R173). -/
def execSetTime (lane : Lane) (time : Word32) (s : State) : Host.Outcome State Fault Refusal :=
  .next (s.request lane .setTime (be32 time) fun s =>
    (s.updTbu fun t => { t with time := time }).answer lane .setTime .ok (be32 time))

/-- CLEAR_CAPTURE (R165). -/
def execClearCapture (lane : Lane) (s : State) : Host.Outcome State Fault Refusal :=
  .next (s.request lane .clearCapture [] fun s => (s.setCapture none).answer lane .clearCapture .ok [])

/-- The empty reset cause set (R174). -/
def ResetCauses.empty : ResetCauses := ⟨false, false, false⟩

/-- CLEAR_CAUSES (R174). -/
def execClearCauses (lane : Lane) (s : State) : Host.Outcome State Fault Refusal :=
  .next (s.request lane .clearCauses [] fun s =>
    (s.updTbu fun t => { t with causes := .empty }).answer lane .clearCauses .ok [])

end Sys2Proof.Machine
end

