-- ==== Sys2Proof/Machine/TimerCommands.lean ====
section
/-! DEFINITION. The part's own timers: TIME_COUNT_ADVANCE (R172), RAMP_TICK (R45, R84), SILENCE_TIMER_EXPIRY (R12),
STOP_TIMER_EXPIRY (R8), POST_TRIP_TIMER_EXPIRY (R144). A timer that is not running has no expiry, and none runs while
the part is held in reset but for those that a reset stops anyway (R176; log entry 4). -/

namespace Sys2Proof.Machine

/-- The part is not held by the reset pin, so its timers run (R176). -/
def State.timersRun (s : State) : Bool := s.tbu.phase != .held

/-- The end of a millisecond interval (R172). -/
def State.advanceTime (s : State) : State :=
  if s.timersRun then s.updTbu fun t => { t with time := t.time + 1 } else s

/-- TIME_COUNT_ADVANCE (R172). -/
def execTimeCountAdvance (s : State) : Host.Outcome State Fault Refusal := .next s.advanceTime

/-- The decay of both overload sums, floored at 0 (R84). -/
def DriveWatch.decayStep (w : DriveWatch) : DriveWatch := { w with ol := w.ol.map fun x => x - w.watch.decay }

/-- An expiry of the ramp timer: the limits step, the overload sums decay (R45, R84). -/
def State.rampTick (s : State) : State :=
  if s.timersRun then ((s.rampPinion .a).rampPinion .b).updDwu DriveWatch.decayStep else s

/-- RAMP_TICK (R45, R84). -/
def execRampTick (s : State) : Host.Outcome State Fault Refusal := .next s.rampTick

/-- The silence timer of pinion k has run out: stopped, and the pinion silent (R12). -/
def RunControl.silence (r : RunControl) (k : Pinion) : RunControl :=
  { r with silenceTimer := r.silenceTimer.set k none, silent := r.silent.set k true }

/-- The ready flag of pinion k's latest-sample record is cleared (R12). -/
def RunControl.clearReady (r : RunControl) (k : Pinion) : RunControl :=
  { r with latest := r.latest.set k ((r.latest.get k).map fun l => { l with ready := false }) }

/-- The expiry of pinion k's silence timer (R12). -/
def State.silenceExpires (s : State) (k : Pinion) : State :=
  match s.rc.silenceTimer.get k with
  | none => s
  | some period =>
    let s₁ := s.updRc fun r => r.silence k
    match s.rc.drive with
    | .ready => s₁.updRc fun r => r.clearReady k
    | .run | .inch | .stopping => s₁.reportTrip (.laneSilent k) period period none
    | .halt | .tripped => s₁

/-- SILENCE_TIMER_EXPIRY (R12). -/
def execSilenceTimerExpiry (k : Pinion) (s : State) : Host.Outcome State Fault Refusal := .next (s.silenceExpires k)

/-- The larger of the two latest speeds, as magnitudes (R8). -/
def State.largerSpeed (s : State) : Nat :=
  max (magnitude (latestSpeed s.rc.latest.a)) (magnitude (latestSpeed s.rc.latest.b))

/-- The expiry of the stop timer (R8). -/
def State.stopExpires (s : State) : State :=
  match s.rc.stopTimer with
  | none => s
  | some _ =>
    let s₁ := s.updRc fun r => { r with stopTimer := none }
    if s.rc.drive = .stopping then s₁.reportTrip .stopTimeout s.largerSpeed s.dwu.watch.zeroSpeed none else s₁

/-- STOP_TIMER_EXPIRY (R8). -/
def execStopTimerExpiry (s : State) : Host.Outcome State Fault Refusal := .next s.stopExpires

/-- The expiry of the post-trip timer: the FILLING record closes (R144). -/
def State.postTripExpires (s : State) : State :=
  if s.trc.postTimer then
    match s.trc.fillingSlot with
    | some i => s.closeRecord i
    | none => s.updTrc fun t => { t with postTimer := false }
  else s

/-- POST_TRIP_TIMER_EXPIRY (R144). -/
def execPostTripTimerExpiry (s : State) : Host.Outcome State Fault Refusal := .next s.postTripExpires

end Sys2Proof.Machine
end

