-- ==== Sys2Proof/Machine/Dispatch.lean ====
section
/-! DEFINITION. `exec`: one arm per command, each a direct call of the command's meaning. -/

namespace Sys2Proof.Machine

def exec (i : Instr) (s : State) : Host.Outcome State Fault Refusal :=
  match i with
  | .selectionStart lane => Sys2Proof.Machine.execSelectionStart lane s
  | .badFrame lane bytes => Sys2Proof.Machine.execBadFrame lane bytes s
  | .pendingSelection lane bytes => Sys2Proof.Machine.execPendingSelection lane bytes s
  | .nop lane => Sys2Proof.Machine.execNop lane s
  | .readStatus lane => Sys2Proof.Machine.execReadStatus lane s
  | .readIdent lane => Sys2Proof.Machine.execReadIdent lane s
  | .readLimits lane page => Sys2Proof.Machine.execReadLimits lane page s
  | .readChannel lane channel => Sys2Proof.Machine.execReadChannel lane channel s
  | .readNode lane position => Sys2Proof.Machine.execReadNode lane position s
  | .readTripSummary lane slot page => Sys2Proof.Machine.execReadTripSummary lane slot page s
  | .setCursor lane slot pinion index direction => Sys2Proof.Machine.execSetCursor lane slot pinion index direction s
  | .readNext lane => Sys2Proof.Machine.execReadNext lane s
  | .ackNotice lane kind => Sys2Proof.Machine.execAckNotice lane kind s
  | .setMask lane mask => Sys2Proof.Machine.execSetMask lane mask s
  | .sample lane iMeas n counter bridge demand => Sys2Proof.Machine.execSample lane iMeas n counter bridge demand s
  | .ackTrip lane => Sys2Proof.Machine.execAckTrip lane s
  | .trip lane => Sys2Proof.Machine.execTrip lane s
  | .arm lane => Sys2Proof.Machine.execArm lane s
  | .disarm lane => Sys2Proof.Machine.execDisarm lane s
  | .start lane => Sys2Proof.Machine.execStart lane s
  | .inch lane => Sys2Proof.Machine.execInch lane s
  | .stop lane => Sys2Proof.Machine.execStop lane s
  | .clearTrip lane => Sys2Proof.Machine.execClearTrip lane s
  | .setLimits lane plant ceilA ceilB derate inchCeiling rampStep => Sys2Proof.Machine.execSetLimits lane plant ceilA ceilB derate inchCeiling rampStep s
  | .setGains lane kp ki feedforward uMin uMax => Sys2Proof.Machine.execSetGains lane kp ki feedforward uMin uMax s
  | .setShare lane lead offset => Sys2Proof.Machine.execSetShare lane lead offset s
  | .setWatch lane oc q decay imbalance shift persistence zeroBand zeroSpeed stopTimeout silenceCode => Sys2Proof.Machine.execSetWatch lane oc q decay imbalance shift persistence zeroBand zeroSpeed stopTimeout silenceCode s
  | .setChannel lane channel enabled group alert danger hysteresis tripOnLoss => Sys2Proof.Machine.execSetChannel lane channel enabled group alert danger hysteresis tripOnLoss s
  | .setChain lane rate window na nd nc => Sys2Proof.Machine.execSetChain lane rate window na nd nc s
  | .discover lane count => Sys2Proof.Machine.execDiscover lane count s
  | .release lane slot => Sys2Proof.Machine.execRelease lane slot s
  | .setTime lane time => Sys2Proof.Machine.execSetTime lane time s
  | .clearCapture lane => Sys2Proof.Machine.execClearCapture lane s
  | .clearCauses lane => Sys2Proof.Machine.execClearCauses lane s
  | .reset lane straps => Sys2Proof.Machine.execReset lane straps s
  | .powerOn straps pinLow => Sys2Proof.Machine.execPowerOn straps pinLow s
  | .resetPin => Sys2Proof.Machine.execResetPin s
  | .resetPinRelease straps => Sys2Proof.Machine.execResetPinRelease straps s
  | .initialisationEnd => Sys2Proof.Machine.execInitialisationEnd s
  | .timeCountAdvance => Sys2Proof.Machine.execTimeCountAdvance s
  | .rampTick => Sys2Proof.Machine.execRampTick s
  | .silenceTimerExpiry pinion => Sys2Proof.Machine.execSilenceTimerExpiry pinion s
  | .stopTimerExpiry => Sys2Proof.Machine.execStopTimerExpiry s
  | .postTripTimerExpiry => Sys2Proof.Machine.execPostTripTimerExpiry s
  | .roundStart => Sys2Proof.Machine.execRoundStart s
  | .replyWindowClose position words => Sys2Proof.Machine.execReplyWindowClose position words s
  | .computationCompletion => Sys2Proof.Machine.execComputationCompletion s
  | .levelComputationCompletion channel => Sys2Proof.Machine.execLevelComputationCompletion channel s
  | .fetchCompletion lane => Sys2Proof.Machine.execFetchCompletion lane s

end Sys2Proof.Machine
end

