-- ==== Sys2Proof/Safety.lean ====
section
/-! DEFINITION. The terms in which statements about the DK426 are made: when a lane takes a request, what a taken request
does to the lanes, and the laws that every step keeps. -/

namespace Sys2Proof.Machine

/-! ### Requests on a lane -/

/-- The lane is in a selection answered from its reply holder, the initialisation is over, and Table 4 allows the
request to the lane's role: at the end of this selection the request reaches its owning block (R161, R163). -/
def Takes (s : State) (lane : Lane) (kind : RequestKind) : Prop :=
  (s.lanes.get lane).selection = .holder ∧ s.tbu.phase = .working ∧ kind.permitted (s.lanes.get lane).role = true

/-- The two requests the initialisation answers as well need no more than the selection (R177). -/
def TakesAlways (s : State) (lane : Lane) : Prop :=
  (s.lanes.get lane).selection = .holder ∧ s.tbu.phase ≠ .held

/-- The selection on the lane has ended with these bytes in its receiver (log entry 14), and nothing else has changed. -/
def State.selectionEnded (s : State) (lane : Lane) (bytes : List Byte) : State :=
  { s with lanes := s.lanes.set lane { s.lanes.get lane with selection := .none, receiver := bytes } }

/-- One lane after a request: its selection has ended with the request's frame in the receiver (log entry 14), the reply is
in its holder, and some notices have joined its set. -/
def LaneState.answered (l : LaneState) (kind : RequestKind) (payload : List Byte) (reply : Reply) (raised : Byte) :
    LaneState :=
  { l with
    selection := .none
    receiver := requestFrame kind payload
    holder := reply
    notices := l.notices ||| raised }

/-- All four lanes after a request on `lane`: that lane is answered, and `raised` says which notices join each lane's
set. Nothing else of any lane changes. That the receiver keeps the request's frame is log entry 14. -/
def Answered (s t : State) (lane : Lane) (kind : RequestKind) (payload : List Byte) (reply : Reply)
    (raised : LaneState → Byte) : Prop :=
  ∀ j, t.lanes.get j =
    if j = lane then (s.lanes.get j).answered kind payload reply (raised (s.lanes.get j))
    else { s.lanes.get j with notices := (s.lanes.get j).notices ||| raised (s.lanes.get j) }

/-- Only notices joined the lanes' sets. -/
def OnlyNotices (s t : State) (raised : LaneState → Byte) : Prop :=
  ∀ j, t.lanes.get j = { s.lanes.get j with notices := (s.lanes.get j).notices ||| raised (s.lanes.get j) }

/-- No notice. -/
def quiet : LaneState → Byte := fun _ => 0

/-- STATE on every lane. -/
def stateBit : LaneState → Byte := fun _ => 0x80

/-- LIMIT on the lane of pinion k, for each pinion whose limit falls. -/
def limitBit (a b : Bool) : LaneState → Byte := fun l =>
  if (l.role = .pinionA ∧ a = true) ∨ (l.role = .pinionB ∧ b = true) then 0x08 else 0

/-- A notice on the PLANT lane and every MONITOR lane. -/
def watcherBit (bit : Byte) : LaneState → Byte := fun l => if l.role = .plant ∨ l.role = .monitor then bit else 0

/-- Two sets of raised notices. -/
def raisedBoth (f g : LaneState → Byte) : LaneState → Byte := fun l => f l ||| g l

/-- `top` is the lowest-numbered notice kind in the set and not masked, or 15 when there is none (R168). -/
def IsTop (notices mask top : Byte) : Prop :=
  (∃ i, i < 8 ∧ top = BitVec.ofNat 8 i ∧ notices.getLsbD i = true ∧ mask.getLsbD i = false ∧
      ∀ j, j < i → (notices.getLsbD j && !mask.getLsbD j) = false) ∨
    (top = 15 ∧ ∀ i, i < 8 → (notices.getLsbD i && !mask.getLsbD i) = false)

/-- The first check of R161 that some bytes fail, as the status of the BAD_FRAME reply. -/
inductive FrameFails : List Byte → Status → Prop
  /-- A selection of one byte. -/
  | one (code : Byte) : FrameFails [code] .badLength
  /-- A payload length of 25..255. -/
  | long (code n : Byte) (rest : List Byte) : 24 < n.toNat → FrameFails (code :: n :: rest) .badLength
  /-- Fewer than n + 3 bytes. -/
  | short (code n : Byte) (rest : List Byte) : n.toNat ≤ 24 → rest.length < n.toNat + 1 →
      FrameFails (code :: n :: rest) .badLength
  /-- The CRC byte differs from the CRC-8 over kind, n and payload. -/
  | crc (code n : Byte) (payload after : List Byte) (c : Byte) : n.toNat ≤ 24 → payload.length = n.toNat →
      c ≠ crc8 (code :: n :: payload) → FrameFails (code :: n :: (payload ++ c :: after)) .badCrc
  /-- A kind that Table 4 does not hold, or a length that is none of its lengths. -/
  | kind (code n : Byte) (payload after : List Byte) : n.toNat ≤ 24 → payload.length = n.toNat →
      (∀ k : RequestKind, k.code = code → n.toNat ∉ k.lengths) →
      FrameFails (code :: n :: (payload ++ crc8 (code :: n :: payload) :: after)) .badLength

/-- The bits of a byte, bit 0 first; those beyond the list are 0 (R159; log entry 10). -/
def HasBits (b : Byte) (bits : List Bool) : Prop := ∀ i, i < 8 → b.getLsbD i = bits.getD i false

/-- A channel that makes V_k equal to D: enabled, of group k or COMMON, and ALERT or UNKNOWN (R40). -/
def Derates (c : ChannelEntry) (k : Pinion) : Prop :=
  c.config.enabled = true ∧
    (c.config.group = .common ∨ (c.config.group = .a ∧ k = .a) ∨ (c.config.group = .b ∧ k = .b)) ∧
    (c.state = .alert ∨ c.state = .unknown)

/-- The V_k source byte of READ LIMITS: 255 for none, where V_k is 32767 because no channel derates the pinion or D itself
is 32767; otherwise the lowest-numbered channel that makes V_k equal to D, with bit 7 set for UNKNOWN (R40, R54,
Table 6). -/
def SourceByte (s : State) (k : Pinion) (b : Byte) : Prop :=
  (((∀ c, ¬Derates (s.vlu.channels.get c) k) ∨ s.slu.derate = 32767) ∧ b = 255) ∨
    ∃ c, s.slu.derate ≠ 32767 ∧ Derates (s.vlu.channels.get c) k ∧ (∀ d, d < c → ¬Derates (s.vlu.channels.get d) k) ∧
      b = byteOf (c.val + if (s.vlu.channels.get c).state = .unknown then 128 else 0)

/-! ### Laws of single blocks -/

/-- The ranges of the vibration level unit: counters, windows and settings stay within what their fields hold (R119,
R120, R121, R124, R125). -/
def VibrationLaw (s : State) : Prop :=
  s.vlu.windowCode ≤ 4 ∧ (1 ≤ s.vlu.na ∧ s.vlu.na ≤ 15) ∧ (1 ≤ s.vlu.nd ∧ s.vlu.nd ≤ 15) ∧
    (1 ≤ s.vlu.nc ∧ s.vlu.nc ≤ 15) ∧
    ∀ i, let c := s.vlu.channels.get i
      c.runs.a ≤ 15 ∧ c.runs.g ≤ 15 ∧ c.runs.c ≤ 15 ∧ c.runs.cd ≤ 15 ∧ c.suspectRun ≤ 3 ∧
        c.held.natAbs ≤ 32767 ∧ c.subs ≤ c.count ∧ c.count < windowLength s.vlu.windowCode ∧
        c.s1.natAbs ≤ c.count * 32767 ∧ c.s2 ≤ c.count * (32767 * 32767)

/-- A cursor that names a place names a record of the slot's present contents, and a fetched record is the one at its
index (R150, R152, R154, R155). -/
def CursorLaw (s : State) : Prop :=
  ∀ j, match (s.lanes.get j).cursor with
    | .idle => True
    | .fetching p => p.index < s.trc.count p.slot p.pinion ∧ p.trip = (s.trc.slots.get p.slot).record.number
    | .fetched p r =>
      ((s.trc.slots.get p.slot).record.snapshots p.pinion)[p.index]? = some r ∧
        p.trip = (s.trc.slots.get p.slot).record.number
    | .gone _ => True

/-- `n` is the limit target of pinion k: the smallest of L_plant, C_k, V_k and M (R38), where V_k is D while a channel
derates the pinion and 32767 otherwise (R40), and M is given by the drive state (R39). -/
def TargetIs (s : State) (k : Pinion) (n : Nat) : Prop :=
  ∃ v m, n = min (min s.slu.plant (s.slu.ceil.get k)) (min v m) ∧
    ((∃ c, Derates (s.vlu.channels.get c) k) → v = s.slu.derate) ∧
    ((∀ c, ¬Derates (s.vlu.channels.get c) k) → v = 32767) ∧
    ((s.rc.drive = .run ∨ s.rc.drive = .stopping) → m = 32767) ∧ (s.rc.drive = .inch → m = s.slu.inch) ∧
    ((s.rc.drive = .halt ∨ s.rc.drive = .ready ∨ s.rc.drive = .tripped) → m = 0)

/-- The split and limit settings lie within their ranges (R23, R38, R52). -/
def SettingsInRange (u : ShareLimit) : Prop :=
  u.plant ≤ 32767 ∧ u.ceil.a ≤ 32767 ∧ u.ceil.b ≤ 32767 ∧ u.derate ≤ 32767 ∧ u.inch ≤ 32767 ∧ u.rampStep ≤ 4096 ∧
    -3277 ≤ u.offset ∧ u.offset ≤ 3277

/-- The limit chain of pinion k: the target is the smallest ceiling, the limit lies at or below it, the reference is the
raw split clamped to the limit, and the limited state says whether the clamp changed it (R38, R43, R45, R48). -/
def LimitChain (s : State) (k : Pinion) : Prop :=
  TargetIs s k (s.slu.target.get k) ∧ s.slu.limit.get k ≤ s.slu.target.get k ∧
    s.slu.iref.get k = clampInt (s.slu.raw.get k) (-(s.slu.limit.get k : Int)) (s.slu.limit.get k) ∧
    s.slu.limited.get k = decide (s.slu.limit.get k < (s.slu.raw.get k).natAbs)

/-- The limit chain of both pinions, with the settings in their ranges. -/
def LimitLaw (s : State) : Prop := SettingsInRange s.slu ∧ ∀ k, LimitChain s k

/-- An overload sum does not exceed Q, and reaches it only in TRIPPED (R83). -/
def OverloadLaw (s : State) : Prop :=
  ∀ k, s.dwu.ol.get k ≤ s.dwu.watch.q ∧ (s.dwu.ol.get k = s.dwu.watch.q → s.rc.drive = .tripped)

/-- A gain set has u_min ≤ 0 ≤ u_max (R58). -/
def GainSet.sound (g : GainSet) : Prop := g.uMin ≤ 0 ∧ 0 ≤ g.uMax

/-- An accumulator value lies within its bound (R57). -/
def accSound (x : Int) : Prop := -Config.accBound ≤ x ∧ x ≤ Config.accBound

/-- The regulators: accumulators within their bound, every gain set sound, and outside regulation everything is at rest
(R57, R58, R63, R71, R32). -/
def RegulatorLaw (s : State) : Prop :=
  (∀ k, accSound (s.crg.acc.get k) ∧ (s.crg.applied.get k).sound) ∧
    (∀ g, s.crg.staged = some g → g.gains.sound) ∧
    (∀ c, s.rau.inFlight = some c → accSound c.acc ∧ c.gains.sound) ∧
    (s.rc.drive.regulating = false →
      s.crg.acc = .both 0 ∧ s.crg.sat = .both .zero ∧ s.crg.staged = none ∧ s.rau = .reset ∧ s.slu.raw = .both 0)

/-- A channel is in DANGER only in TRIPPED (R127). -/
def DangerLaw (s : State) : Prop := ∀ c, (s.vlu.channels.get c).state = .danger → s.rc.drive = .tripped

/-- The trip table: a FILLING record is the current trip's, carries the trip count and stands only in TRIPPED, where the
post-trip timer runs for it; trip numbers of records that are not FREE are distinct and do not exceed the trip count
(R138, R144). -/
def TableLaw (s : State) : Prop :=
  (∀ i, (s.trc.slots.get i).state = .filling →
      s.rc.drive = .tripped ∧ s.trc.current = some i ∧ (s.trc.slots.get i).record.number = s.trc.tripCount) ∧
    (s.trc.postTimer = true ↔ s.trc.fillingSlot.isSome = true) ∧
    (∀ i, (s.trc.slots.get i).state ≠ .free → (s.trc.slots.get i).record.number ≤ s.trc.tripCount) ∧
    (∀ i j, (s.trc.slots.get i).state ≠ .free → (s.trc.slots.get j).state ≠ .free →
      (s.trc.slots.get i).record.number = (s.trc.slots.get j).record.number → i = j)

/-- The records of a list follow one another: each carries the sequence number of the one before it plus 1. -/
def Consecutive : List Snapshot → Prop
  | [] => True
  | [_] => True
  | x :: y :: rest => y.seq = x.seq + 1 ∧ Consecutive (y :: rest)

/-- A list of records ends with the record before the next sequence number, if it holds any. -/
def EndsAt (l : List Snapshot) (next : Word16) : Prop := ∀ x, l.getLast? = some x → x.seq + 1 = next

/-- The history rings and the snapshots: rings of at most 64 records in order, ending at the newest; snapshots of at most
48 and 16 records in order; and while a record is FILLING with room, its snapshot ends at the newest record (R133,
R134, R143). -/
def SnapshotLaw (s : State) : Prop :=
  ∀ k, (s.trc.rings.get k).length ≤ Config.ringSize ∧ Consecutive (s.trc.rings.get k) ∧
    EndsAt (s.trc.rings.get k) (s.trc.nextSeq.get k) ∧
    ∀ i, (s.trc.slots.get i).state ≠ .free →
      ((s.trc.slots.get i).record.pre.get k).length ≤ Config.preSize ∧
        ((s.trc.slots.get i).record.post.get k).length ≤ Config.postSize ∧
        Consecutive ((s.trc.slots.get i).record.snapshots k) ∧
        ((s.trc.slots.get i).state = .filling →
          ((s.trc.slots.get i).record.post.get k).length < Config.postSize →
          EndsAt ((s.trc.slots.get i).record.snapshots k) (s.trc.nextSeq.get k))

/-- The roles and the RAU: no two lanes hold one pinion, a selection answered from the holder is not on a pending lane,
the RAU holds at most one computation of each pinion, none waiting without one in flight, and while the reset pin holds
the part the RAU is idle and no selection will take a request (R158, R162, R70, R71, R176). -/
def RauLaw (s : State) : Prop :=
  (∀ i j k, (s.lanes.get i).role.pinion? = some k → (s.lanes.get j).role.pinion? = some k → i = j) ∧
    (∀ i, (s.lanes.get i).selection = .holder → s.lanePending i = false) ∧
    (s.rau.inFlight = none → s.rau.waiting = []) ∧
    (s.rau.entries.map (·.pinion)).Nodup ∧
    (s.tbu.phase = .held → s.rau = ⟨none, []⟩ ∧ ∀ i, (s.lanes.get i).selection ≠ .holder)

/-- The ranges of the entry of position c: E_c within its tracking bounds, the miss run count up to 16 with 16 exactly in
LOST, the two error counts in 16 bits (R101, R102, R104). -/
def EntryLaw (c : Fin 8) (e : NodeEntry) : Prop :=
  (42 + 48 * c.val ≤ e.expected ∧ e.expected ≤ 72 + 48 * c.val) ∧ e.miss ≤ 16 ∧ (e.miss = 16 ↔ e.state = .lost) ∧
    e.parity ≤ 65535 ∧ e.misalign ≤ 65535

/-- Where a running discovery stands: before its first search round every entry is ABSENT; in the search of position n,
below the count, the positions below n have been locked and those above n are ABSENT, and entry n is SEARCHING from its
first search round on (R106, R108 to R111). -/
def DiscoveryLaw (s : State) : Prop :=
  match s.scc.discovery with
  | none => ∀ c, (s.scc.nodes.get c).state ≠ .searching
  | some d => (1 ≤ d.count ∧ d.count ≤ 8) ∧
    match d.step with
    | .clear _ => d.found = 0 ∧ ∀ c, (s.scc.nodes.get c).state = .absent
    | .search n rounds => n.val < d.count ∧ d.found = n.val ∧
      (s.scc.nodes.get n).state = (if rounds = 0 then .absent else .searching) ∧
      ∀ c, (c < n → (s.scc.nodes.get c).state = .locked ∨ (s.scc.nodes.get c).state = .lost) ∧
        (n < c → (s.scc.nodes.get c).state = .absent)

/-- The sensor chain: every entry in its ranges, a running discovery in order, and the last result "running" exactly
while one runs (R101 to R104, R106, R108 to R111, R114). -/
def ChainLaw (s : State) : Prop :=
  (∀ c, EntryLaw c (s.scc.nodes.get c)) ∧ DiscoveryLaw s ∧
    (s.scc.lastResult = .running ↔ s.scc.discovery ≠ none)

/-- A position is searched for in at most 64 rounds: the 64th is in progress, with the search window open, or it has
ended the search (R111). -/
def SearchLaw (s : State) : Prop :=
  ∀ count n rounds found, s.scc.discovery = some ⟨count, .search n rounds, found⟩ →
    rounds ≤ 64 ∧ (rounds = 64 → ∃ r, s.scc.round = some r ∧ r.search = some n ∧ n ∉ r.polled)

/-! ### Run control -/

/-- A request is refused: its status in the reply, no payload, and nothing else of the part changes (R2, R159). -/
def Refused (c : Instr) (s : State) (lane : Lane) (kind : RequestKind) (payload : List Byte) (status : Status) : Prop :=
  ∃ t, exec c s = .next t ∧ t = { s with lanes := t.lanes } ∧
    Answered s t lane kind payload ⟨kind.code, status, s.rc.drive, []⟩ quiet

/-- Both pinion roles are held by a lane (R3). -/
def RolesHeld (s : State) : Prop := (∃ j, (s.lanes.get j).role = .pinionA) ∧ ∃ j, (s.lanes.get j).role = .pinionB

/-- Every enabled channel with trip-on-loss set has its node LOCKED (R3). -/
def ChainLocked (s : State) : Prop :=
  ∀ c, (s.vlu.channels.get c).config.enabled = true → (s.vlu.channels.get c).config.tripOnLoss = true →
    (s.scc.nodes.get c).state = .locked

/-- Each pinion has a latest-sample record with its ready flag set and is not silent (R5). -/
def BothReady (s : State) : Prop := ∀ k, (∃ l, s.rc.latest.get k = some l ∧ l.ready = true) ∧ s.rc.silent.get k = false

/-- The current trip has a record, and it is FILLING (R20). -/
def RecordFilling (s : State) : Prop := ∃ i, s.trc.current = some i ∧ (s.trc.slots.get i).state = .filling

/-- Pinion k is silent, or acknowledged with the current of its latest-sample record within the zero band; an absent
record reads as 0 (R20, R10). -/
def AtRest (s : State) (k : Pinion) : Prop :=
  s.rc.silent.get k = true ∨
    s.rc.ack.get k = true ∧
      (s.rc.latest.get k = none ∨
        ∃ l, s.rc.latest.get k = some l ∧ l.iMeas.toInt.natAbs ≤ s.dwu.watch.zeroBand)

/-- An active cause of a trip (R20). -/
def CauseActive (s : State) : Prop :=
  (∃ c, (s.vlu.channels.get c).state = .danger) ∨
    (∃ c, (s.vlu.channels.get c).config.enabled = true ∧ (s.vlu.channels.get c).config.tripOnLoss = true ∧
      (s.scc.nodes.get c).state = .lost) ∨
    (∃ k, s.dwu.watch.q ≤ 2 * s.dwu.ol.get k) ∨ ∃ k l, s.rc.latest.get k = some l ∧ l.fault = true

/-! ### Leaving regulation and trip entry -/

/-- The split and limit unit at rest: targets, limits, references and raw splits 0 (R9, R41). -/
def ShareLimit.atRest (u : ShareLimit) : ShareLimit :=
  { u with
    raw := .both 0
    target := .both 0
    limit := .both 0
    iref := .both 0
    limited := .both false }

/-- The applied sets after leaving regulation: the staged set for each channel still pending (R63). -/
def Regulators.settled (r : Regulators) (k : Pinion) : GainSet :=
  match r.staged with
  | some g => if g.mark.get k then g.gains else r.applied.get k
  | none => r.applied.get k

/-- HALT has been entered with the actions of R9; run control is left to the statement. -/
def EnteredHalt (s t : State) : Prop :=
  t = { s with
    lanes := t.lanes
    rc := t.rc
    slu := s.slu.atRest
    crg :=
      { acc := .both 0, sat := .both .zero, applied := ⟨s.crg.settled .a, s.crg.settled .b⟩, staged := none,
        lastSet := s.crg.lastSet }
    rau := ⟨none, []⟩ }

/-- A cause reported in TRIPPED (R17, R142): only the record of the current trip may change, and only while it is
FILLING: the cause joins the later-cause list unless it repeats the first cause or an entry, and a fifth one sets
MORE. -/
def LaterCause (s t : State) (cause : Cause) : Prop :=
  (¬RecordFilling s → t.trc.slots = s.trc.slots) ∧
    ∀ i, s.trc.current = some i → (s.trc.slots.get i).state = .filling →
      let x := (s.trc.slots.get i).record
      t.trc.slots = s.trc.slots.set i
        ⟨.filling,
          if cause = x.cause ∨ cause ∈ x.later then x
          else if x.later.length < 4 then { x with later := x.later ++ [cause] }
          else { x with more := true }⟩

/-- The record of a computation abandoned at trip entry, or of the sample whose own arrival tripped the drive: v_dem 0,
the reference, limit and limited state as they stood before the entry (R16, R75, R77). -/
def lostRecord (s : State) (e : Entry) (trigger : Bool) : Snapshot where
  seq := s.trc.nextSeq.get e.pinion
  iMeas := e.iMeas
  iRef := s.slu.iref.get e.pinion
  vDem := 0
  limit := s.slu.limit.get e.pinion
  satHi := false
  satLo := false
  limited := s.slu.limited.get e.pinion
  gap := gapAfter (s.trc.prevCounter.get e.pinion) e.counter
  post := false
  trigger := trigger
  abandoned := !trigger
  demand := !trigger && e.demand
  drive := e.drive

/-- The reply of a computation abandoned at trip entry (R75): v_dem, i_ref and L are 0, DEMAND_IGNORED as decided at the
arrival, TRIPPED set. -/
def lostReply (e : Entry) : Reply :=
  ⟨0x10, .ok, .tripped, [0, 0, 0, 0, 0, 0, if e.demandIgnored then 0x44 else 0x40]⟩

/-- The slot that a trip takes: the lowest-numbered FREE slot or, if none is FREE, the READ slot with the lowest trip
number (R139). -/
def Chosen (t : Recorder) (i : Fin 8) : Prop :=
  ((t.slots.get i).state = .free ∧ ∀ j, j < i → (t.slots.get j).state ≠ .free) ∨
    ((∀ j, (t.slots.get j).state ≠ .free) ∧ (t.slots.get i).state = .read ∧
      ∀ j, (t.slots.get j).state = .read → (t.slots.get i).record.number ≤ (t.slots.get j).record.number)

/-- The trip takes slot i: it opens FILLING with its header and the pre-trigger parts copied from the rings as the
records of the entry left them, and the post-trip timer starts (R140). `later` are the causes that the same event
reports after the first (R142). -/
def TakesSlot (s t : State) (cause : Cause) (value limit : Nat) (later : List Cause) (i : Fin 8) : Prop :=
  t.trc.slots = s.trc.slots.set i
      { state := .filling
        record :=
          { number := s.trc.tripCount + 1
            time := s.tbu.time
            before := s.rc.drive
            cause := cause
            value := value
            limit := limit
            later := later
            more := false
            limits := s.slu.limit
            channels := s.vlu.channels.map fun _ c => c.state
            cutShort := false
            pre := t.trc.rings.map (lastN 48)
            post := .both [] } } ∧
    t.trc.tripCount = s.trc.tripCount + 1 ∧ t.trc.current = some i ∧ t.trc.postTimer = true ∧
    t.trc.overflow = s.trc.overflow ∧ t.trc.unrecorded = s.trc.unrecorded

/-- The trip count after a trip entry: one more, but never past 65535 (R139). -/
def countAfter (n : Nat) : Nat := if n < 65535 then n + 1 else n

/-- The trip goes to the overflow summary (R139, R141). -/
def Overflows (s t : State) (cause : Cause) : Prop :=
  t.trc.slots = s.trc.slots ∧ t.trc.tripCount = countAfter s.trc.tripCount ∧ t.trc.current = none ∧
    t.trc.postTimer = s.trc.postTimer ∧
    t.trc.overflow = some ⟨countAfter s.trc.tripCount, s.tbu.time, cause⟩ ∧
    t.trc.unrecorded = min (s.trc.unrecorded + 1) 255

/-- The slot or the overflow summary that a trip takes (R139). -/
def Recorded (s t : State) (cause : Cause) (value limit : Nat) (later : List Cause) : Prop :=
  (∃ i, s.trc.tripCount < 65535 ∧ Chosen s.trc i ∧ TakesSlot s t cause value limit later i) ∨
    ((65535 ≤ s.trc.tripCount ∨ ∀ j, (s.trc.slots.get j).state ≠ .free ∧ (s.trc.slots.get j).state ≠ .read) ∧
      Overflows s t cause)

/-- One more record in the ring of pinion k: the oldest of 64 leaves, the next sequence number and the previous sample
counter follow (R133, R134, R135). -/
def RingGains (s t : State) (k : Pinion) (record : Snapshot) (counter : Byte) : Prop :=
  t.trc.rings.get k = lastN 64 (s.trc.rings.get k ++ [record]) ∧
    t.trc.nextSeq.get k = s.trc.nextSeq.get k + 1 ∧ t.trc.prevCounter.get k = some counter

/-- Pinion k's ring as it was. -/
def RingStays (s t : State) (k : Pinion) : Prop :=
  t.trc.rings.get k = s.trc.rings.get k ∧ t.trc.nextSeq.get k = s.trc.nextSeq.get k ∧
    t.trc.prevCounter.get k = s.trc.prevCounter.get k

/-- Trip entry from state `s` to state `t`, but for the lanes (R15, R16, R9, R63, R75, R77, R140). `trigger` is the
sample whose own arrival trips the drive, if the event is one. -/
structure TripEntered (s t : State) (cause : Cause) (value limit : Nat) (trigger : Option Entry)
    (later : List Cause) : Prop where
  rc : t.rc = { s.rc with drive := .tripped, stopTimer := none, ack := .both false }
  slu : t.slu = s.slu.atRest
  crg : t.crg =
    { acc := .both 0, sat := .both .zero, applied := ⟨s.crg.settled .a, s.crg.settled .b⟩, staged := none,
      lastSet := s.crg.lastSet }
  rau : t.rau = ⟨none, []⟩
  others : t.pending = s.pending ∧ t.openReads = s.openReads ∧ t.capture = s.capture ∧ t.dwu = s.dwu ∧
    t.scc = s.scc ∧ t.vlu = s.vlu ∧ t.tbu = s.tbu
  lost : ∀ e ∈ s.rau.entries, RingGains s t e.pinion (lostRecord s e false) e.counter
  sample : ∀ e, trigger = some e → RingGains s t e.pinion (lostRecord s e true) e.counter
  kept : ∀ k, (∀ e ∈ s.rau.entries, e.pinion ≠ k) → (∀ e, trigger = some e → e.pinion ≠ k) → RingStays s t k
  table : Recorded s t cause value limit later

/-- One lane after trip entry: TRIP and STATE, LIMIT where the pinion's limit fell, the reply of an abandoned
computation, and a cursor into a reused slot lost (R15, R51, R75, R155). `slot` is the slot the trip took. -/
def LaneState.tripped (l : LaneState) (s : State) (slot : Option (Fin 8)) : LaneState :=
  { l with
    notices := l.notices ||| (0x81 ||| limitBit (decide (0 < s.slu.limit.a)) (decide (0 < s.slu.limit.b)) l)
    holder :=
      match s.rau.entries.find? fun e => l.role == pinionRole e.pinion with
      | some e => lostReply e
      | none => l.holder
    cursor :=
      match slot with
      | some i => l.cursor.lose i
      | none => l.cursor }

/-! ### Settings, ticks and the limit chain -/

/-- The targets have been recomputed from the ceilings of `t`: a limit above its target has fallen to it, and every
reference is the clamp of its raw split (R38, R42, R43, R48). Nothing else of the split and limit unit differs from
`s`. -/
def Retargeted (s t : State) : Prop :=
  t.slu = { s.slu with
    target := t.slu.target, limit := t.slu.limit, iref := t.slu.iref, limited := t.slu.limited } ∧
    ∀ k, LimitChain t k ∧ t.slu.limit.get k = min (s.slu.limit.get k) (t.slu.target.get k)

/-- LIMIT on the lane of each pinion whose limit fell from `s` to `t` (R51). -/
def limitFalls (s t : State) : LaneState → Byte :=
  limitBit (decide (t.slu.limit.a < s.slu.limit.a)) (decide (t.slu.limit.b < s.slu.limit.b))

/-- A channel that forgets: the computation abandoned, the window emptied, the counters at 0, UNKNOWN (R129, R130). -/
def ChannelEntry.forgotten (c : ChannelEntry) : ChannelEntry :=
  { c with
    s1 := 0, s2 := 0, count := 0, subs := 0, computation := none, runs := ⟨0, 0, 0, 0⟩, suspectRun := 0
    state := .unknown }

/-- A channel with its window emptied (R119). -/
def ChannelEntry.emptied (c : ChannelEntry) : ChannelEntry := { c with s1 := 0, s2 := 0, count := 0, subs := 0 }

/-! ### Chain rounds and channels -/

/-- A bit position inside the reply window of position c: P_nom(c) − 6 .. P_nom(c) + 24 (R101). -/
def InWindow (c : Fin 8) (p : Nat) : Prop := 42 + 48 * c.val ≤ p ∧ p ≤ 72 + 48 * c.val

/-- `w` is the first word that starts in the reply window of position c (R98). -/
def FirstIn (c : Fin 8) (words : List ChainWord) (w : ChainWord) : Prop :=
  ∃ before after, words = before ++ w :: after ∧ InWindow c w.start ∧ ∀ v ∈ before, ¬InWindow c v.start

/-- A word passes its check: the expected start pattern, and an even number of ones in the 13 data bits and the parity
bit (R98). -/
def Passes (pattern : BitVec 2) (w : ChainWord) : Prop :=
  w.bits.extractLsb' 14 2 = pattern ∧ onesBelow w.bits 14 % 2 = 0

/-- `o` is the round that goes on after position c's window has closed in the round `r`: the windows of the other
positions stay open, and the round has ended when none does (R97). -/
def WindowShut (r : Round) (c : Fin 8) (o : Option Round) : Prop :=
  (o = none ↔ ∀ p, p ∈ r.polled ∨ r.search = some p → p = c) ∧
    ∀ r', o = some r' → r'.polled.Sublist r.polled ∧ (∀ p, p ∈ r'.polled ↔ p ∈ r.polled ∧ p ≠ c) ∧
      ∀ p, r'.search = some p ↔ r.search = some p ∧ p ≠ c

/-- Position c's reply window is open in the round in progress (R97). -/
def WindowOpen (s : State) (c : Fin 8) : Prop := ∃ r, s.scc.round = some r ∧ (c ∈ r.polled ∨ r.search = some c)

/-- An entry after a failed round: the sixteenth in a row loses the node (R104). -/
def NodeEntry.failed (e : NodeEntry) : NodeEntry :=
  { e with miss := min (e.miss + 1) 16, state := if 16 ≤ e.miss + 1 then .lost else e.state }

/-- What the window of a polled position held: the entry after it and the sample value, none for a failed sample
(R99, R102, R104). -/
inductive Heard (e : NodeEntry) (c : Fin 8) (words : List ChainWord) : NodeEntry → Option Int → Prop
  | good (w : ChainWord) (x : Int) : FirstIn c words w → e.expected ≤ w.start + 3 → w.start ≤ e.expected + 3 →
      Passes 0b10 w →
      x = max (-32767) (min 32767 ((w.bits.extractLsb' 1 10).toInt * 2 ^ (w.bits.extractLsb' 11 3).toNat)) →
      Heard e c words { e with miss := 0 } (some x)
  | bad (w : ChainWord) : FirstIn c words w → e.expected ≤ w.start + 3 → w.start ≤ e.expected + 3 → ¬Passes 0b10 w →
      Heard e c words ({ e with parity := min (e.parity + 1) 65535 } : NodeEntry).failed none
  | early (w : ChainWord) : FirstIn c words w → w.start + 3 < e.expected →
      Heard e c words
        ({ e with expected := e.expected - 1, misalign := min (e.misalign + 1) 65535 } : NodeEntry).failed none
  | late (w : ChainWord) : FirstIn c words w → e.expected + 3 < w.start →
      Heard e c words
        ({ e with expected := e.expected + 1, misalign := min (e.misalign + 1) 65535 } : NodeEntry).failed none
  | silent : (∀ w ∈ words, ¬InWindow c w.start) → Heard e c words e.failed none

/-- A hand-over to a channel: the value, or the held value for a failed sample, joins the window; the hand-over that
brings the sample count to W starts the level computation and empties the window (R120, R121, R122). -/
def ChannelEntry.handed (c : ChannelEntry) (x : Option Int) (code : Nat) : ChannelEntry :=
  let v := x.getD c.held
  let s1 := c.s1 + v
  let s2 := c.s2 + v.natAbs * v.natAbs
  let subs := if x = none then c.subs + 1 else c.subs
  if c.count + 1 = 2 ^ (6 + code) then
    { c with s1 := 0, s2 := 0, count := 0, subs := 0, held := v, computation := some ⟨s1, s2, subs, code⟩ }
  else { c with s1 := s1, s2 := s2, count := c.count + 1, subs := subs, held := v }

/-- VIB_STATE on the PLANT and MONITOR lanes if the state of channel c is not what it was in `s` (R128). -/
def vibMoves (s u : State) (c : Channel) : LaneState → Byte :=
  if (u.vlu.channels.get c).state = (s.vlu.channels.get c).state then quiet else watcherBit 0x04

/-- An event changed the entry of channel c from `s` to `u` and reports nothing: the ceilings and targets are those of
the changed table, with VIB_STATE if the state moved (R128). -/
def ChannelSettled (s u t : State) (c : Channel) : Prop :=
  t = { u with lanes := t.lanes, slu := t.slu } ∧ Retargeted u t ∧
    OnlyNotices u t (raisedBoth (vibMoves s u c) (limitFalls u t))

/-- An event changed the entry of channel c from `s` to `u` and reports a trip condition: trip entry outside TRIPPED, a
later cause in TRIPPED, and VIB_STATE if the state moved (R127, R128, R129). -/
def ChannelReports (s u t : State) (c : Channel) (cause : Cause) (value limit : Nat) : Prop :=
  (s.rc.drive ≠ .tripped → TripEntered u t cause value limit none [] ∧
    ∀ j, t.lanes.get j =
      { (u.lanes.get j).tripped u t.trc.current with
        notices := ((u.lanes.get j).tripped u t.trc.current).notices ||| vibMoves s u c (u.lanes.get j) }) ∧
    (s.rc.drive = .tripped → t = { u with lanes := t.lanes, slu := t.slu, trc := { u.trc with slots := t.trc.slots } } ∧
      Retargeted u t ∧ LaterCause u t cause ∧ OnlyNotices u t (raisedBoth (vibMoves s u c) (limitFalls u t)))

/-- A run counter: one more, up to 15, while its condition holds, and 0 otherwise (R125). -/
def counted (holds : Prop) [Decidable holds] (n : Nat) : Nat := if holds then min (n + 1) 15 else 0

/-- The run counters after a non-suspect window of this level (R125, Table 3). -/
def ChannelEntry.runsAfter (c : ChannelEntry) (rms : Nat) : RunCounters where
  a := counted (c.config.alert ≤ rms) c.runs.a
  g := counted (c.config.danger ≤ rms) c.runs.g
  c := counted (rms < c.config.alert - c.config.hysteresis) c.runs.c
  cd := counted (rms < c.config.danger - c.config.hysteresis) c.runs.cd

/-- The state moves at a non-suspect window, by the counters as updated (R126, Table 4). -/
inductive Moves (v : Vibration) (c : ChannelEntry) (rms : Nat) (r : RunCounters) : ChannelState → Prop
  | fromUnknownHigh : c.state = .unknown → c.config.alert ≤ rms → Moves v c rms r .alert
  | fromUnknownLow : c.state = .unknown → rms < c.config.alert → Moves v c rms r .normal
  | toDanger : c.state = .normal ∨ c.state = .alert → v.nd ≤ r.g → Moves v c rms r .danger
  | toAlert : c.state = .normal → r.g < v.nd → v.na ≤ r.a → Moves v c rms r .alert
  | staysNormal : c.state = .normal → r.g < v.nd → r.a < v.na → Moves v c rms r .normal
  | toNormal : c.state = .alert → r.g < v.nd → v.nc ≤ r.c → Moves v c rms r .normal
  | staysAlert : c.state = .alert → r.g < v.nd → r.c < v.nc → Moves v c rms r .alert
  | fallsBack : c.state = .danger → v.nc ≤ r.cd → Moves v c rms r .alert
  | staysDanger : c.state = .danger → r.cd < v.nc → Moves v c rms r .danger

/-- The level of a window: the whole root of the mean square with the mean removed, floored at 0 (R123). -/
def IsLevel (l : LevelComputation) (rms : Nat) : Prop :=
  let mean := l.s1 / 2 ^ (6 + l.code)
  let ms := ((l.s2 / 2 ^ (6 + l.code) : Nat) : Int) - mean * mean
  (rms * rms : Int) ≤ max ms 0 ∧ max ms 0 < (rms + 1) * (rms + 1)

/-- The entry of a channel after the completion of its level computation (R124, R125, R126). -/
def LevelWritten (v : Vibration) (c d : ChannelEntry) (l : LevelComputation) (time : Word32) : Prop :=
  ∃ rms, IsLevel l rms ∧
    (2 ^ (6 + l.code) < 4 * l.subs →
      d = { c with
        computation := none
        seq := c.seq + 1
        record := some ⟨rms, c.seq + 1, true, time⟩
        suspectRun := min (c.suspectRun + 1) 3
        state := if 3 ≤ c.suspectRun + 1 then .unknown else c.state
        runs := if 3 ≤ c.suspectRun + 1 ∧ c.state ≠ .unknown then ⟨0, 0, 0, 0⟩ else c.runs }) ∧
    (4 * l.subs ≤ 2 ^ (6 + l.code) → ∃ state, Moves v c rms (c.runsAfter rms) state ∧
      d = { c with
        computation := none
        seq := c.seq + 1
        record := some ⟨rms, c.seq + 1, false, time⟩
        suspectRun := 0
        runs := c.runsAfter rms
        state := state })

/-! ### Samples and computations -/

/-- The FILLING record to whose post-trigger part pinion k's next record goes (R143). -/
def AppendsAt (s : State) (k : Pinion) (i : Fin 8) : Prop :=
  s.trc.current = some i ∧ (s.trc.slots.get i).state = .filling ∧
    ((s.trc.slots.get i).record.post.get k).length < 16

/-- That append leaves both post-trigger parts holding 16 records (R144). -/
def ClosesAt (s : State) (k : Pinion) (i : Fin 8) : Prop :=
  AppendsAt s k i ∧ 15 ≤ ((s.trc.slots.get i).record.post.get k).length ∧
    16 ≤ ((s.trc.slots.get i).record.post.get k.other).length

/-- A record of pinion k is written: into its ring, and into the FILLING record while its part has room; the append that
fills both parts closes the record (R133, R134, R143, R144). `x` is the record with POST clear. -/
def Written (s t : State) (k : Pinion) (x : Snapshot) (counter : Byte) : Prop :=
  RingStays s t k.other ∧
    t.trc.tripCount = s.trc.tripCount ∧ t.trc.current = s.trc.current ∧ t.trc.overflow = s.trc.overflow ∧
    t.trc.unrecorded = s.trc.unrecorded ∧
    ((∀ i, ¬AppendsAt s k i) → RingGains s t k x counter ∧ t.trc.slots = s.trc.slots ∧
      t.trc.postTimer = s.trc.postTimer) ∧
    ∀ i, AppendsAt s k i →
      RingGains s t k { x with post := true } counter ∧
        let r := (s.trc.slots.get i).record
        let r' := { r with post := r.post.set k (r.post.get k ++ [{ x with post := true }]) }
        (¬ClosesAt s k i → t.trc.slots = s.trc.slots.set i ⟨.filling, r'⟩ ∧ t.trc.postTimer = s.trc.postTimer) ∧
          (ClosesAt s k i → t.trc.slots = s.trc.slots.set i ⟨.closed, r'⟩ ∧ t.trc.postTimer = false)

/-- RECORD_CLOSED on every lane if the record of pinion k that is written in `s` closes a trip record, and nothing
otherwise (R144). -/
def CloseBit (s : State) (k : Pinion) (f : LaneState → Byte) : Prop :=
  ((∃ i, ClosesAt s k i) → f = fun _ => 0x02) ∧ ((∀ i, ¬ClosesAt s k i) → f = quiet)

/-- The record of a sample as it stands when it is written (R73, R77). -/
def sampleRecord (s : State) (e : Entry) (vDem : Int) (satHi satLo : Bool) : Snapshot where
  seq := s.trc.nextSeq.get e.pinion
  iMeas := e.iMeas
  iRef := s.slu.iref.get e.pinion
  vDem := vDem
  limit := s.slu.limit.get e.pinion
  satHi := satHi
  satLo := satLo
  limited := s.slu.limited.get e.pinion
  gap := gapAfter (s.trc.prevCounter.get e.pinion) e.counter
  post := false
  trigger := false
  abandoned := false
  demand := e.demand
  drive := e.drive

/-- The reply to a sample of pinion k, with the limit chain as it stands in `s`: the lead pinion's reply shows both
limited flags, the other's its own (R35, R73, R74, R77). -/
def SampleReply (s : State) (k : Pinion) (vDem : Int) (ignored satHi satLo newGains tripped : Bool) (r : Reply) :
    Prop :=
  ∃ flags, HasBits flags [s.slu.limited.a && (k == s.slu.lead || k == .a), s.slu.limited.b && (k == s.slu.lead || k == .b),
      ignored, satHi, satLo, newGains, tripped] ∧
    r = ⟨0x10, .ok, s.rc.drive, int16 vDem ++ int16 (s.slu.iref.get k) ++ nat16 (s.slu.limit.get k) ++ [flags]⟩

/-- The regulators and the computation after a start of channel k: the take-up of a staged set whose mark is set, then the
values read (R61, R72). -/
def Starts (u : ShareLimit) (r r' : Regulators) (e : Entry) (c : Computation) : Prop :=
  (∀ g, r.staged = some g → g.mark.get e.pinion = true →
    r' = { r with
      applied := r.applied.set e.pinion g.gains
      staged := if g.mark.get e.pinion.other then some ⟨g.gains, g.mark.set e.pinion false⟩ else none } ∧
    c.newGains = true) ∧
    ((∀ g, r.staged = some g → g.mark.get e.pinion = false) → r' = r ∧ c.newGains = false) ∧
    c = ⟨e, u.iref.get e.pinion, r'.acc.get e.pinion, r'.sat.get e.pinion, r'.applied.get e.pinion, c.newGains⟩

/-- In RUN, INCH or STOPPING. -/
def InRegulation (s : State) : Prop := s.rc.drive = .run ∨ s.rc.drive = .inch ∨ s.rc.drive = .stopping

/-- Run control after an arrival of pinion k: the latest-sample record replaced whole, the silence timer restarted, the
pinion heard (R10, R11). -/
def heardBy (s : State) (k : Pinion) (iMeas n : Word16) (bridge : Byte) : RunControl :=
  { s.rc with
    latest := s.rc.latest.set k (some ⟨iMeas, n, bridge.getLsbD 0, bridge.getLsbD 1⟩)
    silenceTimer := s.rc.silenceTimer.set k (some (Config.silencePeriod s.dwu.watch.silenceCode))
    silent := s.rc.silent.set k false }

/-- The measured current of pinion j at the imbalance check of an arrival of pinion k (R87, R10). -/
def currentAt (s : State) (k : Pinion) (iMeas : Word16) (j : Pinion) : Int :=
  if j = k then iMeas.toInt else ((s.rc.latest.get j).map fun l => l.iMeas.toInt).getD 0

/-- The imbalance filter after an update at an arrival (R87, R88). -/
def filterAfter (s : State) (k : Pinion) (iMeas : Word16) : Int :=
  let x := (currentAt s k iMeas .a - currentAt s k iMeas .b) - (s.slu.iref.a - s.slu.iref.b)
  s.dwu.filter + (x * 256 - s.dwu.filter) / 2 ^ s.dwu.watch.shift

/-- The imbalance level after that update (R89). -/
def levelAfter (s : State) (k : Pinion) (iMeas : Word16) : Nat := (filterAfter s k iMeas / 256).natAbs

/-- The run count after that update (R89). -/
def runAfter (s : State) (k : Pinion) (iMeas : Word16) : Nat :=
  if s.dwu.watch.imbalance < levelAfter s k iMeas then min (s.dwu.runCount + 1) 255 else 0

/-- The overload sum of pinion k after an arrival (R82). -/
def loadAfter (s : State) (k : Pinion) (iMeas : Word16) : Nat :=
  if s.slu.ceil.get k < iMeas.toInt.natAbs then
    min (s.dwu.ol.get k + (iMeas.toInt.natAbs - s.slu.ceil.get k)) s.dwu.watch.q
  else s.dwu.ol.get k

/-- What the bridge flags, the overcurrent check and the overload accumulation of an arrival report, in their order
(R13, R80, R81, R83). A fault outside HALT and TRIPPED trips the drive, so the ready flag is not examined behind it. -/
def firstReports (s : State) (k : Pinion) (iMeas : Word16) (bridge : Byte) : List (Cause × Nat × Nat) :=
  (if bridge.getLsbD 1 = true ∧ s.rc.drive ≠ .halt then [(.bridgeFault k, 0, 0)]
    else if bridge.getLsbD 0 = false ∧ (s.rc.drive = .run ∨ s.rc.drive = .inch ∨ s.rc.drive = .stopping) then
      [(.bridgeDrop k, 0, 0)]
    else []) ++
  (if s.dwu.watch.oc ≤ iMeas.toInt.natAbs then [(.overcurrent k, iMeas.toInt.natAbs, s.dwu.watch.oc)] else []) ++
  (if s.slu.ceil.get k < iMeas.toInt.natAbs ∧
      s.dwu.watch.q ≤ s.dwu.ol.get k + (iMeas.toInt.natAbs - s.slu.ceil.get k) then
    [(.overload k, s.dwu.watch.q, s.dwu.watch.q)]
  else [])

/-- The imbalance check runs: in RUN and STOPPING, while nothing before it has tripped the drive (R87). -/
def imbalanceRuns (s : State) (k : Pinion) (iMeas : Word16) (bridge : Byte) : Prop :=
  firstReports s k iMeas bridge = [] ∧ (s.rc.drive = .run ∨ s.rc.drive = .stopping)

/-- The drive watch after an arrival (R82, R88, R89). -/
def Watched (s t : State) (k : Pinion) (iMeas : Word16) (bridge : Byte) : Prop :=
  (imbalanceRuns s k iMeas bridge → t.dwu = { s.dwu with
    ol := s.dwu.ol.set k (loadAfter s k iMeas), filter := filterAfter s k iMeas, runCount := runAfter s k iMeas }) ∧
    (¬imbalanceRuns s k iMeas bridge → t.dwu = { s.dwu with ol := s.dwu.ol.set k (loadAfter s k iMeas) })

/-- The imbalance check of an arrival reports (R89). -/
def imbalanceReports (s : State) (k : Pinion) (iMeas : Word16) (bridge : Byte) : Prop :=
  imbalanceRuns s k iMeas bridge ∧ s.dwu.watch.persistence ≤ runAfter s k iMeas

/-- No check of an arrival reports anything. -/
def Calm (s : State) (k : Pinion) (iMeas : Word16) (bridge : Byte) : Prop :=
  firstReports s k iMeas bridge = [] ∧ ¬imbalanceReports s k iMeas bridge

/-- The two latest speeds at the zero-speed test of an arrival of pinion k lie within the band (R7). -/
def NearStandstill (s : State) (k : Pinion) (n : Word16) : Prop :=
  n.toInt.natAbs ≤ s.dwu.watch.zeroSpeed ∧
    ((s.rc.latest.get k.other).map fun l => l.n.toInt.natAbs).getD 0 ≤ s.dwu.watch.zeroSpeed

/-- The split and limit unit after an arrival's demand: used if it comes from the lead pinion, and otherwise untouched
(R27, R29, R30, R31). -/
def Split (u u' : ShareLimit) (k : Pinion) (demand : Option Word16) : Prop :=
  (∀ T, demand = some T → k = u.lead → ∃ adj : Int, adj = (T.toInt * u.offset + 16384) / 32768 ∧
    ∃ ra rb : Int, ra = max (-32768) (min 32767 (T.toInt + adj)) ∧ rb = max (-32768) (min 32767 (T.toInt - adj)) ∧
      u' = { u with
        raw := ⟨ra, rb⟩
        iref := ⟨max (-(u.limit.a : Int)) (min u.limit.a ra), max (-(u.limit.b : Int)) (min u.limit.b rb)⟩
        limited := ⟨decide (u.limit.a < ra.natAbs), decide (u.limit.b < rb.natAbs)⟩ }) ∧
    ((demand = none ∨ k ≠ u.lead) → u' = u)

/-- The results of a computation's seven steps (R65 to R69). -/
structure Computed (c : Computation) (acc v : Int) (sat : Sat) : Prop where
  steps : ∃ e i p f u : Int,
    e = max (-32768) (min 32767 (c.iRef - c.entry.iMeas.toInt)) ∧
      ((c.sat = .high ∧ 0 < e ∨ c.sat = .low ∧ e < 0) → acc = c.acc) ∧
      (¬(c.sat = .high ∧ 0 < e ∨ c.sat = .low ∧ e < 0) →
        acc = max (-2147418112) (min 2147418112 (c.acc + c.gains.ki * e))) ∧
      i = (acc + 32768) / 65536 ∧ p = (c.gains.kp * e + 2048) / 4096 ∧
      (c.gains.feedforward = true → f = c.entry.n.toInt) ∧ (c.gains.feedforward = false → f = 0) ∧
      u = p + i + f ∧ v = max c.gains.uMin (min c.gains.uMax u) ∧
      (c.gains.uMax < u → sat = .high) ∧ (u < c.gains.uMin → sat = .low) ∧
      (c.gains.uMin ≤ u → u ≤ c.gains.uMax → sat = .zero)

/-- Causes reported one after another in TRIPPED (R17, R142). -/
inductive Offered : State → State → List Cause → Prop
  | nil (s : State) : Offered s s []
  | cons (s u t : State) (cause : Cause) (rest : List Cause) : LaterCause s u cause →
      u = { s with trc := { s.trc with slots := u.trc.slots } } → Offered u t rest → Offered s t (cause :: rest)

/-- One lane at the end of a controlled stop: STATE, LIMIT where the pinion's limit fell, and the reply of an abandoned
computation, with TRIPPED clear (R9, R51, R75). -/
def LaneState.stopped (l : LaneState) (s : State) : LaneState :=
  { l with
    notices := l.notices ||| (0x80 ||| limitBit (decide (0 < s.slu.limit.a)) (decide (0 < s.slu.limit.b)) l)
    holder :=
      match s.rau.entries.find? fun e => l.role == pinionRole e.pinion with
      | some e => ⟨0x10, .ok, .ready, [0, 0, 0, 0, 0, 0, if e.demandIgnored then 0x04 else 0]⟩
      | none => l.holder }

/-! ### Resets -/

/-- Every block but the channel table and the trip table is as after power-on, with these causes (R22, R36, R55, R78, R94,
R115, R119, R136, R165, R172, R174). -/
def BlocksReset (s t : State) (causes : ResetCauses) (phase : Phase) : Prop :=
  t.pending = s.pending ∧ t.openReads = s.openReads ∧ t.capture = none ∧ t.rc = State.reset.rc ∧
    t.slu = State.reset.slu ∧ t.crg = State.reset.crg ∧ t.rau = State.reset.rau ∧ t.dwu = State.reset.dwu ∧
    t.scc = State.reset.scc ∧ t.tbu = ⟨0, causes, phase⟩ ∧
    (t.vlu.windowCode = 2 ∧ t.vlu.na = 3 ∧ t.vlu.nd = 2 ∧ t.vlu.nc = 5) ∧
    (t.trc.rings = .both [] ∧ t.trc.nextSeq = .both 0 ∧ t.trc.prevCounter = .both none ∧ t.trc.current = none ∧
      t.trc.postTimer = false)

/-- A pin reset or plant reset: the channel configuration and the trip table are kept, and a FILLING record is closed with
CUT_SHORT (R132, R149, R175, R176). -/
def WarmReset (s t : State) (causes : ResetCauses) (phase : Phase) : Prop :=
  BlocksReset s t causes phase ∧
    (∀ c, t.vlu.channels.get c =
      { State.reset.vlu.channels.get c with config := (s.vlu.channels.get c).config }) ∧
    (∀ i, t.trc.slots.get i =
      if (s.trc.slots.get i).state = .filling then ⟨.closed, { (s.trc.slots.get i).record with cutShort := true }⟩
      else s.trc.slots.get i) ∧
    t.trc.tripCount = s.trc.tripCount ∧ t.trc.overflow = s.trc.overflow ∧ t.trc.unrecorded = s.trc.unrecorded

/-- Power-on: the channel table and the trip table start anew as well (R132, R148). -/
def ColdReset (s t : State) (phase : Phase) : Prop :=
  BlocksReset s t ⟨true, false, false⟩ phase ∧ t.vlu = State.reset.vlu ∧ t.trc = State.reset.trc

/-- One lane after a reset, with this role and strap-conflict flag: the reset reply, empty notice set and mask, cursor
IDLE; a selection in progress takes nothing at its end (R157, R164, R169). The frame already fixed for shifting out stays:
DESIGN CHOICE (log entry 9). -/
def LaneState.restarted (l : LaneState) (role : Role × Bool) : LaneState where
  role := role.1
  conflict := role.2
  holder := ⟨0x00, .ok, .halt, []⟩
  selection := if l.selection = .none then .none else .dead
  receiver := []
  dataOut := l.dataOut
  notices := 0
  mask := 0
  cursor := .idle

end Sys2Proof.Machine
end

