-- ==== Sys2Proof/WellFormed.lean ====
section
/-! DEFINITION. Which terms of `Instr` stand for commands that can happen. Most operands are well formed by their
types; two carry a condition. -/

namespace Sys2Proof

/-- Words reach the chain input one after another, so their observed positions rise (R98, R101). -/
def risingStarts : List ChainWord → Bool
  | [] => true
  | [_] => true
  | w :: v :: rest => decide (w.start < v.start) && risingStarts (v :: rest)

/-- A selection ends as a BAD_FRAME if its bytes fail a check of R161 (no bytes at all make no frame, R160). -/
def failsFrameChecks (bytes : List Byte) : Bool :=
  match Machine.checkFrame bytes with
  | .ok _ => false
  | .error _ => true

/-- The well-formedness check. -/
def Instr.wf : Instr → Bool
  | .badFrame _ bytes => failsFrameChecks bytes
  | .replyWindowClose _ words => risingStarts words
  | .selectionStart _ | .pendingSelection _ _ | .nop _ | .readStatus _ | .readIdent _ | .readLimits _ _
  | .readChannel _ _ | .readNode _ _ | .readTripSummary _ _ _ | .setCursor _ _ _ _ _ | .readNext _
  | .ackNotice _ _ | .setMask _ _ | .sample _ _ _ _ _ _ | .ackTrip _ | .trip _ | .arm _ | .disarm _ | .start _
  | .inch _ | .stop _ | .clearTrip _ | .setLimits _ _ _ _ _ _ _ | .setGains _ _ _ _ _ _ | .setShare _ _ _
  | .setWatch _ _ _ _ _ _ _ _ _ _ _ | .setChannel _ _ _ _ _ _ _ _ | .setChain _ _ _ _ _ _ | .discover _ _
  | .release _ _ | .setTime _ _ | .clearCapture _ | .clearCauses _ | .reset _ _ | .powerOn _ _ | .resetPin
  | .resetPinRelease _ | .initialisationEnd | .timeCountAdvance | .rampTick | .silenceTimerExpiry _
  | .stopTimerExpiry | .postTripTimerExpiry | .roundStart | .computationCompletion
  | .levelComputationCompletion _ | .fetchCompletion _ => true

end Sys2Proof
end

