-- ==== Sys2Proof/Certificates/Slice0/Obligations.lean ====
section
/-! DEFINITION. The statements about the DK426 that the provers are asked to prove. -/

section

open Sys2Proof Sys2Proof.Machine

/-- A step runs the command at the front of the queue; on an empty queue the part idles (spec/opcode_table.json: the
steps, each whole and indivisible (95_what_each_step_holds.md); 95_what_each_step_holds.md: what happens happens at
a step of the table). The model's own: the queue and its order (log entry 1); idling on an empty queue (log entry
2). -/
def Obligations.StepTakesFrontCommand : Prop :=
  (∀ (c : Instr) (rest : List Instr) (s : State), s.pending = c :: rest → step s = exec c { s with pending := rest }) ∧
    (∀ s : State, s.pending = [] → step s = .next s)

/-- Every command completes from every state, and no command touches the queue (95_what_each_step_holds.md: the
steps). The model's own: the queue and its order (log entry 1); an event that cannot happen in its state changes
nothing (log entry 4). -/
def Obligations.EveryCommandCompletes : Prop :=
  ∀ (c : Instr) (s : State), ∃ t, exec c s = .next t ∧ t.pending = s.pending

/-- What power-on leaves in every block (1.6 (R22); 2.5 (R36); 3.7 (R55); 4.6 (R78); 5.6 (R94); 6.7 (R115); 7.8
(R132); 7.2 (R119); 8.1 (R136); 8.5 (R148); chapter 10 (R164, R165, R169); chapter 11 (R172, R174, R176)). The
model's own: the straps are operands, and State.reset names them (log entry 6); State.reset is the start of the
initialisation (log entry 7). -/
def Obligations.ResetState : Prop :=
  (State.reset.rc = ⟨.halt, .both none, .both true, .both none, .both false, none⟩ ∧
     State.reset.slu.lead = .a ∧ State.reset.slu.offset = 0 ∧ State.reset.slu.raw = .both 0 ∧
     (State.reset.slu.plant = 16384 ∧ State.reset.slu.ceil = .both 24576 ∧ State.reset.slu.derate = 13107 ∧
       State.reset.slu.inch = 4915 ∧ State.reset.slu.rampStep = 164) ∧
     (∀ k, State.reset.slu.target.get k = 0 ∧ State.reset.slu.limit.get k = 0 ∧ State.reset.slu.iref.get k = 0 ∧
       State.reset.slu.limited.get k = false) ∧
     (∀ k, State.reset.crg.acc.get k = 0 ∧ State.reset.crg.sat.get k = .zero ∧
       State.reset.crg.applied.get k = ⟨4096, 1024, true, -29491, 29491, 0⟩) ∧
     State.reset.crg.staged = none ∧ State.reset.crg.lastSet = 0 ∧ State.reset.rau = ⟨none, []⟩ ∧
     State.reset.dwu = ⟨.both 0, 0, 0, ⟨29491, 2000000, 2000, 1638, 6, 32, 328, 164, 120, 3⟩⟩ ∧
     (∀ c, State.reset.scc.nodes.get c = ⟨.absent, none, 48 + 48 * c.val, 0, 0, 0⟩) ∧
     State.reset.scc.discovery = none ∧ State.reset.scc.lastResult = .none ∧ State.reset.scc.rate = .r2048 ∧
     State.reset.scc.lastSpan = none) ∧
    ((∀ c, State.reset.vlu.channels.get c =
         ⟨⟨false, .common, 4000, 8000, 400, false⟩, 0, 0, 0, 0, 0, .unknown, ⟨0, 0, 0, 0⟩, 0, none, 0, none⟩) ∧
       State.reset.vlu.windowCode = 2 ∧ State.reset.vlu.na = 3 ∧ State.reset.vlu.nd = 2 ∧ State.reset.vlu.nc = 5 ∧
       (∀ k, State.reset.trc.rings.get k = [] ∧ State.reset.trc.nextSeq.get k = 0 ∧
         State.reset.trc.prevCounter.get k = none) ∧
       (∀ i, (State.reset.trc.slots.get i).state = .free) ∧ State.reset.trc.tripCount = 0 ∧
       State.reset.trc.current = none ∧ State.reset.trc.overflow = none ∧ State.reset.trc.unrecorded = 0 ∧
       State.reset.trc.postTimer = false ∧
       (∀ j, (State.reset.lanes.get j).holder = ⟨0x00, .ok, .halt, []⟩ ∧ (State.reset.lanes.get j).notices = 0 ∧
         (State.reset.lanes.get j).mask = 0 ∧ (State.reset.lanes.get j).cursor = .idle ∧
         (State.reset.lanes.get j).receiver = [] ∧ State.reset.lanePending j = false ∧
         ((State.reset.lanes.get j).role, (State.reset.lanes.get j).conflict) = settleRole ⟨0, 1, 2, 3⟩ j) ∧
       State.reset.capture = none ∧ State.reset.tbu = ⟨0, ⟨true, false, false⟩, .initialising⟩)

/-- The start of a selection fixes the frame the lane shifts out (10.3 (R160, R162); 10.6 (R168); 11.3 (R176)). The
model's own: the frame fixed for shifting out is a field of its own (log entry 9); the receiver is filled at the end
of a selection and kept (log entry 14); a start during a selection begins a new one, and what was shifted in is lost
(log entry 29). -/
def Obligations.SelectionStartFixesFrame : Prop :=
  ∀ (s : State) (lane : Lane), ∃ t, exec (.selectionStart lane) s = .next t ∧ t = { s with lanes := t.lanes } ∧
    (∀ j, j ≠ lane → t.lanes.get j = s.lanes.get j) ∧
    ∃ top, IsTop (s.lanes.get lane).notices (s.lanes.get lane).mask top ∧
      ∃ r : Reply, (s.lanePending lane = true → r = ⟨0xFE, .busy, s.rc.drive, []⟩) ∧
        (s.lanePending lane = false → r = (s.lanes.get lane).holder) ∧
        t.lanes.get lane =
          { s.lanes.get lane with
            selection :=
              if s.tbu.phase = .held then .dead else if s.lanePending lane then .pendingReply else .holder
            receiver := []
            dataOut :=
              [r.kind, r.status.code, top, r.drive.code, byteOf r.payload.length] ++ r.payload ++
                [crc8 ([r.kind, r.status.code, top, r.drive.code, byteOf r.payload.length] ++ r.payload)] }

/-- A frame that fails a check is not taken and is answered BAD_FRAME (10.3 (R161, R160)). The model's own: bytes
that pass every check are no BAD_FRAME (log entry 13); the receiver is filled at the end of a selection and kept
(log entry 14). -/
def Obligations.BadFrameReply : Prop :=
  ∀ (s : State) (lane : Lane) (bytes : List Byte), (s.lanes.get lane).selection = .holder →
    (∀ status, FrameFails bytes status → exec (.badFrame lane bytes) s = .next
      { s with
        lanes := s.lanes.set lane
          { s.lanes.get lane with
            selection := .none
            receiver := bytes
            holder := ⟨0xFF, status, s.rc.drive, []⟩ } }) ∧
    (bytes = [] → exec (.badFrame lane bytes) s = .next
      { s with lanes := s.lanes.set lane { s.lanes.get lane with selection := .none, receiver := [] } }) ∧
    (∀ (i : Instr) (frame after : List Byte), encodeFrame i = some frame → bytes = frame ++ after →
      exec (.badFrame lane bytes) s = .next s)

/-- A selection answered with PENDING, cut by a reset, or begun under the reset pin takes nothing (10.3 (R162,
R164); 11.3 (R176)). The model's own: an event that cannot happen in its state changes nothing (log entry 4); the
receiver is filled at the end of a selection and kept (log entry 14); a selection begun under the reset pin takes
nothing also after the release (log entry 21); PENDING_SELECTION is the end of such a selection (log entry 31). -/
def Obligations.PendingAndDeadSelectionsTakeNothing : Prop :=
  ∀ (s : State) (lane : Lane),
    ((s.lanes.get lane).selection = .pendingReply ∨ (s.lanes.get lane).selection = .dead →
      (∀ bytes, exec (.pendingSelection lane bytes) s = .next (s.selectionEnded lane bytes)) ∧
      (∀ bytes, (bytes = [] ∨ ∃ status, FrameFails bytes status) →
        exec (.badFrame lane bytes) s = .next (s.selectionEnded lane bytes)) ∧
      ∀ (i : Instr) (p : RequestKind × List Byte), requestLane i = some lane → encodePayload i = some p →
        exec i s = .next (s.selectionEnded lane (requestFrame p.1 p.2))) ∧
    ((s.lanes.get lane).selection = .holder → ∀ bytes, exec (.pendingSelection lane bytes) s = .next s)

/-- A command that ends a selection on a lane without one in progress is a whole selection (10.3 (R160, R161,
R162)). The model's own: an event that cannot happen in its state changes nothing (log entry 4); a command that ends
a selection starts it first where none is in progress (log entry 5). -/
def Obligations.SelectionEndStartsItsSelection : Prop :=
  ∀ (s u : State) (lane : Lane), (s.lanes.get lane).selection = .none → exec (.selectionStart lane) s = .next u →
    (∀ i, requestLane i = some lane → exec i s = exec i u) ∧
    (∀ bytes, (bytes = [] ∨ ∃ status, FrameFails bytes status) →
      exec (.badFrame lane bytes) s = exec (.badFrame lane bytes) u) ∧
    ((u.lanes.get lane).selection ≠ .holder →
      ∀ bytes, exec (.pendingSelection lane bytes) s = exec (.pendingSelection lane bytes) u) ∧
    ((u.lanes.get lane).selection = .holder → ∀ bytes, exec (.pendingSelection lane bytes) s = .next s)

/-- During the initialisation every request but READ STATUS and READ IDENT is refused with INITIALIZING (11.3
(R177); 10.3 (R163)). The model's own: the receiver is filled at the end of a selection and kept (log entry 14). -/
def Obligations.InitialisationRefuses : Prop :=
  ∀ (s : State) (i : Instr) (lane : Lane) (p : RequestKind × List Byte),
    requestLane i = some lane → encodePayload i = some p → s.tbu.phase = .initialising →
    (s.lanes.get lane).selection = .holder → p.1 ≠ .readStatus → p.1 ≠ .readIdent →
    ∃ t, exec i s = .next t ∧ t = { s with lanes := t.lanes } ∧
      Answered s t lane p.1 p.2 ⟨p.1.code, .initializing, s.rc.drive, []⟩ quiet

/-- A request that Table 4 does not allow to the lane is refused with NOT_PERMITTED and offered to the refusal
capture (10.3 (R163); 10.5 (R165); 10.2 (Table 4)). The model's own: the receiver is filled at the end of a
selection and kept (log entry 14). -/
def Obligations.NotPermittedRefusal : Prop :=
  ∀ (s : State) (i : Instr) (lane : Lane) (p : RequestKind × List Byte),
    requestLane i = some lane → encodePayload i = some p → s.tbu.phase = .working →
    (s.lanes.get lane).selection = .holder → p.1.permitted (s.lanes.get lane).role = false →
    ∃ t, exec i s = .next t ∧
      (s.capture = none → t = { s with lanes := t.lanes, capture := some ⟨lane, p.1.code, s.tbu.time⟩ }) ∧
      (s.capture ≠ none → t = { s with lanes := t.lanes }) ∧
      Answered s t lane p.1 p.2 ⟨p.1.code, .notPermitted, s.rc.drive, []⟩
        (fun l => if s.capture = none ∧ l.role = .plant then 0x40 else 0)

/-- The kinds and permissions of Table 4, and the codes of reply bytes (10.2 (Table 4, R159, Tables 1, 2, 5); 10.6
(Table 8); 8.2 (Table 2)). -/
def Obligations.CodesAndPermissions : Prop :=
  ((∀ (k : RequestKind) (r : Role), k.permitted r = true ↔
     k.code.toNat < 0x10 ∨ ((k.code = 0x10 ∨ k.code = 0x11) ∧ (r = .pinionA ∨ r = .pinionB)) ∨
       (k.code = 0x12 ∧ r ≠ .monitor) ∨ (0x20 ≤ k.code.toNat ∧ k.code.toNat ≤ 0x31 ∧ r = .plant)) ∧
     ∀ (b : Byte) (k : RequestKind), kindOfCode b = some k ↔ k.code = b) ∧
    (([Role.pinionA, .pinionB, .plant, .monitor].map Role.code = [0, 1, 2, 3]) ∧
       ([DriveState.halt, .ready, .run, .inch, .stopping, .tripped].map DriveState.code = [0, 1, 2, 3, 4, 5]) ∧
       ([Status.ok, .accepted, .badState, .notPermitted, .notReady, .missingRole, .range, .busy, .activeCause, .filling,
           .empty, .noCursor, .wait, .gone, .chainIncomplete, .initializing, .badCrc, .badLength].map Status.code =
         [0, 1, 2, 3, 4, 5, 6, 7, 8, 9, 10, 11, 12, 13, 14, 15, 16, 17]) ∧
       ([Notice.trip, .recordClosed, .vibState, .limit, .fetchDone, .chainDone, .refusal, .state].map Notice.number =
         [0, 1, 2, 3, 4, 5, 6, 7]) ∧
       ([Group.a, .b, .common].map Group.code = [0, 1, 2]) ∧
       ([ChannelState.unknown, .normal, .alert, .danger].map ChannelState.code = [0, 1, 2, 3]) ∧
       ([NodeState.absent, .searching, .locked, .lost].map NodeState.code = [0, 1, 2, 3]) ∧
       ([SlotState.free, .filling, .closed, .read].map SlotState.code = [0, 1, 2, 3]) ∧
       ([Direction.up, .down].map Direction.code = [0, 1]) ∧
       (∀ (k : Pinion) (b : Byte), (k = .a → b = 0) → (k = .b → b = 1) →
         (Cause.overcurrent k).bytes = [0, b] ∧ (Cause.overload k).bytes = [1, b] ∧ (Cause.laneSilent k).bytes = [5, b] ∧
           (Cause.bridgeFault k).bytes = [6, b] ∧ (Cause.bridgeDrop k).bytes = [7, b]) ∧
       (∀ c : Channel, (Cause.vibDanger c).bytes = [3, byteOf c.val] ∧ (Cause.chainLoss c).bytes = [4, byteOf c.val]) ∧
       (∀ lane : Lane, (Cause.commanded lane).bytes = [9, byteOf lane.val]) ∧
       Cause.imbalance.bytes = [2, 255] ∧ Cause.stopTimeout.bytes = [8, 255])

/-- NOP is answered OK; SET MASK replaces the lane's mask; ACK NOTICE removes one kind from its set (10.3 (R163);
10.6 (R168, R167)). The model's own: the receiver is filled at the end of a selection and kept (log entry 14). -/
def Obligations.NopAckNoticeAndSetMask : Prop :=
  ((∀ (s : State) (lane : Lane), Takes s lane .nop → ∃ t, exec (.nop lane) s = .next t ∧ t = { s with lanes := t.lanes } ∧
      Answered s t lane .nop [] ⟨0x00, .ok, s.rc.drive, []⟩ quiet) ∧
     (∀ (s : State) (lane : Lane) (m : Byte), Takes s lane .setMask → exec (.setMask lane m) s = .next
        { s with
          lanes := s.lanes.set lane
            { s.lanes.get lane with
              selection := .none
              receiver := requestFrame .setMask [m]
              mask := m
              holder := ⟨0x0A, .ok, s.rc.drive, [(s.lanes.get lane).notices, m]⟩ } })) ∧
    (∀ (s : State) (lane : Lane) (b : Byte), Takes s lane .ackNotice → ∃ n : Byte,
       (∀ i, i < 8 → n.getLsbD i = ((s.lanes.get lane).notices.getLsbD i && decide (i ≠ b.toNat))) ∧
       exec (.ackNotice lane b) s = .next
         { s with
           lanes := s.lanes.set lane
             { s.lanes.get lane with
               selection := .none
               receiver := requestFrame .ackNotice [b]
               notices := n
               holder := ⟨0x09, .ok, s.rc.drive, [n, (s.lanes.get lane).mask]⟩ } })

/-- The attention line and the top notice follow the set and the mask (10.6 (R168)). -/
def Obligations.AttentionAndTopNotice : Prop :=
  ∀ l : LaneState, (l.attention = true ↔ ∃ i, i < 8 ∧ l.notices.getLsbD i = true ∧ l.mask.getLsbD i = false) ∧
    IsTop l.notices l.mask l.topNotice

/-- A request from a MONITOR lane changes only that lane and the refusal capture (R166). -/
def Obligations.MonitorIsolation : Prop :=
  ∀ (s t : State) (i : Instr) (lane : Lane), requestLane i = some lane → (s.lanes.get lane).role = .monitor →
    (s.lanes.get lane).selection ≠ .none → exec i s = .next t →
    t = { s with lanes := t.lanes, capture := t.capture, openReads := t.openReads } ∧
      (t.capture = s.capture ∨
        s.capture = none ∧ ∃ p, encodePayload i = some p ∧ t.capture = some ⟨lane, p.1.code, s.tbu.time⟩) ∧
      (∀ j, j ≠ lane → t.lanes.get j =
        { s.lanes.get j with
          notices := (s.lanes.get j).notices |||
            (if t.capture ≠ s.capture ∧ (s.lanes.get j).role = .plant then 0x40 else 0) }) ∧
      t.lanes.get lane =
        { s.lanes.get lane with
          selection := .none
          receiver := (t.lanes.get lane).receiver
          holder := (t.lanes.get lane).holder
          notices := (t.lanes.get lane).notices
          mask := (t.lanes.get lane).mask
          cursor := (t.lanes.get lane).cursor }

/-- READ STATUS and READ IDENT return their items and change nothing (10.7 (R170, R171); 11.3 (R177)). The model's
own: bits without a meaning are 0 (log entry 10); the receiver is filled at the end of a selection and kept (log
entry 14). -/
def Obligations.ReadStatusAndIdentReplies : Prop :=
  (∀ (s : State) (lane : Lane), TakesAlways s lane → ∃ b0 b1 b2 : Byte,
     HasBits b0 [s.rc.silent.a, s.rc.silent.b, s.rc.ack.a, s.rc.ack.b, (s.rc.latest.a.map (·.ready)).getD false,
       (s.rc.latest.b.map (·.ready)).getD false, (s.rc.latest.a.map (·.fault)).getD false,
       (s.rc.latest.b.map (·.fault)).getD false] ∧
     HasBits b1 [decide (s.tbu.phase = .initialising), s.capture.isSome, s.scc.discovery.isSome,
       decide (∃ i, (s.trc.slots.get i).state = .filling)] ∧
     HasBits b2 [s.tbu.causes.powerOn, s.tbu.causes.resetPin, s.tbu.causes.plantReset] ∧
     ∃ t, exec (.readStatus lane) s = .next t ∧ t = { s with lanes := t.lanes } ∧
       Answered s t lane .readStatus []
         ⟨0x01, .ok, s.rc.drive,
           [b0, b1, b2] ++ be32 s.tbu.time ++ nat16 s.trc.tripCount ++
             (match s.capture with
              | none => [255, 0, 0, 0, 0, 0]
              | some c => [byteOf c.lane.val, c.kind] ++ be32 c.time) ++
             nat32 s.dwu.ol.a ++ nat32 s.dwu.ol.b ++ nat16 (min (s.dwu.filter / 256).natAbs 65535) ++
             [byteOf s.dwu.runCount]⟩ quiet) ∧
    (∀ (s : State) (lane : Lane), TakesAlways s lane → ∃ t, exec (.readIdent lane) s = .next t ∧
       t = { s with lanes := t.lanes } ∧
       Answered s t lane .readIdent []
         ⟨0x02, .ok, s.rc.drive, [0x04, 0x26, 0x02, byteOf lane.val, (s.lanes.get lane).role.code,
           if (s.lanes.get lane).conflict then 1 else 0]⟩ quiet)

/-- READ LIMITS returns the state page or the settings page (3.6 (R54); 4.6 (R79); 10.2 (R159, Table 6)). The
model's own: bits without a meaning are 0 (log entry 10); the receiver is filled at the end of a selection and kept
(log entry 14). -/
def Obligations.ReadLimitsReply : Prop :=
  ∀ (s : State) (lane : Lane) (page : Option Byte), Takes s lane .readLimits → ∃ va vb marks : Byte,
    SourceByte s .a va ∧ SourceByte s .b vb ∧
    HasBits marks [(s.crg.staged.map (·.mark.a)).getD false, (s.crg.staged.map (·.mark.b)).getD false] ∧
    ∃ t, exec (.readLimits lane page) s = .next t ∧ t = { s with lanes := t.lanes } ∧
      Answered s t lane .readLimits page.toList
        ⟨0x03, .ok, s.rc.drive,
          if page = none ∨ page = some 0 then
            [pinionCode s.slu.lead] ++ int16 s.slu.offset ++
              nat16 s.slu.target.a ++ nat16 s.slu.limit.a ++ int16 s.slu.raw.a ++ int16 s.slu.iref.a ++
              [if s.slu.limited.a then 1 else 0] ++
              nat16 s.slu.target.b ++ nat16 s.slu.limit.b ++ int16 s.slu.raw.b ++ int16 s.slu.iref.b ++
              [if s.slu.limited.b then 1 else 0] ++
              [va, vb, byteOf s.crg.applied.a.number, byteOf s.crg.applied.b.number,
                byteOf ((s.crg.staged.map (·.gains.number)).getD 0), marks]
          else
            nat16 s.slu.plant ++ nat16 s.slu.ceil.a ++ nat16 s.slu.ceil.b ++ nat16 s.slu.derate ++
              nat16 s.slu.inch ++ nat16 s.slu.rampStep⟩ quiet

/-- READ CHANNEL returns one channel entry (7.7 (R131); 10.2 (R159, Table 6)). The model's own: bits without a
meaning are 0 (log entry 10); the receiver is filled at the end of a selection and kept (log entry 14). -/
def Obligations.ReadChannelReply : Prop :=
  ∀ (s : State) (lane : Lane) (b : Byte) (i : Channel), VibrationLaw s → Takes s lane .readChannel →
    i.val = min b.toNat 7 → ∃ flags : Byte,
    (let c := s.vlu.channels.get i
     HasBits flags [c.config.enabled, c.config.tripOnLoss, c.config.group.code.getLsbD 0, c.config.group.code.getLsbD 1,
       c.state.code.getLsbD 0, c.state.code.getLsbD 1, c.computation.isSome, c.record.isSome] ∧
     ∃ t, exec (.readChannel lane b) s = .next t ∧ t = { s with lanes := t.lanes } ∧
       Answered s t lane .readChannel [b]
         ⟨0x04, .ok, s.rc.drive,
           [byteOf i.val, flags] ++ nat16 c.config.alert ++ nat16 c.config.danger ++ nat16 c.config.hysteresis ++
             [byteOf (16 * c.runs.a + c.runs.g), byteOf (16 * c.runs.c + c.runs.cd),
               byteOf (c.suspectRun + if (c.record.map (·.suspect)).getD false then 4 else 0)] ++
             nat16 c.count ++ nat16 c.subs ++ int16 c.held ++
             (match c.record with
              | some r => nat16 r.rms ++ be16 r.seq ++ be32 r.time
              | none => [0, 0, 0, 0, 0, 0, 0, 0]) ++
             nat16 (4096 * s.vlu.windowCode + 256 * s.vlu.na + 16 * s.vlu.nd + s.vlu.nc)⟩ quiet)

/-- READ NODE returns one node entry and the chain summary (6.6 (R114); 10.2 (R159, Table 6)). The model's own: the
count bytes of a last result that is none or running are free values (log entry 11); the receiver is filled at the
end of a selection and kept (log entry 14); the search position is clear round until the first search round (log
entry 17); search rounds are counted by their polls (log entry 18). -/
def Obligations.ReadNodeReply : Prop :=
  ∀ (s : State) (lane : Lane) (b : Byte) (i : Fin 8), Takes s lane .readNode → i.val = min b.toNat 7 →
    ∃ x y : Byte, (∀ found count, s.scc.lastResult = .foundOf found count → x = byteOf found ∧ y = byteOf count) ∧
    ∃ t, exec (.readNode lane b) s = .next t ∧ t = { s with lanes := t.lanes, openReads := s.openReads + 1 } ∧
      Answered s t lane .readNode [b]
        ⟨0x05, .ok, s.rc.drive,
          (let e := s.scc.nodes.get i
           [byteOf i.val, e.state.code] ++ nat16 ((e.identity.map BitVec.toNat).getD 65535) ++
             nat16 (48 + 48 * i.val) ++ nat16 e.expected ++ [byteOf e.miss] ++ nat16 e.parity ++
             nat16 e.misalign) ++
            [s.scc.rate.code, byteOf ((s.scc.lastSpan.map Fin.val).getD 15)] ++
            (match s.scc.discovery with
             | none => [0, 0, 0, 0]
             | some ⟨count, .clear _, _⟩ => [1, byteOf count, 8, 0]
             | some ⟨count, .search n rounds, _⟩ => [1, byteOf count, byteOf n.val, byteOf rounds]) ++
            [match s.scc.lastResult with
             | .none => 0
             | .running => 1
             | .foundOf _ _ => 2, x, y]⟩ quiet

/-- READ TRIP SUMMARY returns a page of a slot or the index, and marks a CLOSED record READ for the plant (8.4
(R145); 10.2 (R159, Table 6)). The model's own: the receiver is filled at the end of a selection and kept (log entry
14). -/
def Obligations.ReadTripSummaryReply : Prop :=
  ∀ (s : State) (lane : Lane) (b : Byte) (page : Option Byte), Takes s lane .readTripSummary →
    ∃ t, exec (.readTripSummary lane b page) s = .next t ∧
      (∀ i : Fin 8, b = byteOf i.val → (s.trc.slots.get i).state ≠ .free →
        let x := (s.trc.slots.get i).record
        let marked := (s.lanes.get lane).role = .plant ∧ (s.trc.slots.get i).state = .closed
        let state := if marked then SlotState.read else (s.trc.slots.get i).state
        t = { s with lanes := t.lanes, trc := { s.trc with slots := s.trc.slots.set i ⟨state, x⟩ } } ∧
        Answered s t lane .readTripSummary (b :: page.toList)
          ⟨0x06, .ok, s.rc.drive,
            [state.code] ++ nat16 x.number ++
              (if page = none ∨ page = some 0 then
                be32 x.time ++ [x.before.code] ++ x.cause.bytes ++ nat32 x.value ++ nat32 x.limit ++
                  nat16 x.limits.a ++ nat16 x.limits.b ++
                  [if x.cutShort then 1 else 0, byteOf x.pre.a.length, byteOf x.post.a.length,
                    byteOf x.pre.b.length, byteOf x.post.b.length]
              else
                [byteOf x.later.length, if x.more then 1 else 0] ++
                  ((x.later.map Cause.bytes ++ List.replicate 4 [255, 255]).take 4).flatten ++
                  x.channels.toList.map ChannelState.code ++ nat16 s.trc.tripCount)⟩ quiet) ∧
      ((8 < b.toNat ∨ ∃ i : Fin 8, b = byteOf i.val ∧ (s.trc.slots.get i).state = .free) →
        t = { s with lanes := t.lanes } ∧
        Answered s t lane .readTripSummary (b :: page.toList) ⟨0x06, .empty, s.rc.drive, []⟩ quiet) ∧
      (b = 8 → t = { s with lanes := t.lanes } ∧
        Answered s t lane .readTripSummary (b :: page.toList)
          ⟨0x06, .ok, s.rc.drive,
            nat16 s.trc.tripCount ++ s.trc.slots.toList.map (fun x => x.state.code) ++
              (match s.trc.overflow with
               | some o => [1] ++ nat16 o.number ++ be32 o.time ++ o.cause.bytes ++ [byteOf s.trc.unrecorded]
               | none => [0, 0, 0, 0, 0, 0, 0, 0, 0, 0])⟩ quiet)

/-- SET CURSOR sets the lane's own cursor and starts its fetch, or is refused with EMPTY; the completion fills the
cursor (9.2 (R151, R152); 9.1 (R150); 10.2 (R159, Table 6)). The model's own: an event that cannot happen in its
state changes nothing (log entry 4); the receiver is filled at the end of a selection and kept (log entry 14); a
fetch reads its record at its completion (log entry 30). -/
def Obligations.SetCursorAndItsFetch : Prop :=
  (∀ (s : State) (lane : Lane) (b pinion index direction : Byte), Takes s lane .setCursor →
     (∀ i : Fin 8, b = byteOf i.val → ∀ k d, k = (if pinion = 0 then Pinion.a else .b) →
       d = (if direction = 0 then Direction.up else .down) → (s.trc.slots.get i).state ≠ .free →
       let x := (s.trc.slots.get i).record
       let count := (x.pre.get k).length + (x.post.get k).length
       let at_ := if index.toNat < count then index.toNat else count - 1
       0 < count → exec (.setCursor lane b pinion index direction) s = .next
         { s with
           lanes := s.lanes.set lane
             { s.lanes.get lane with
               selection := .none
               receiver := requestFrame .setCursor [b, pinion, index, direction]
               cursor := .fetching ⟨i, x.number, k, at_, d⟩
               holder := ⟨0x07, .accepted, s.rc.drive,
                 [b, pinionCode k, d.code, byteOf at_] ++ nat16 x.number ++
                   [(s.trc.slots.get i).state.code, byteOf count]⟩ } }) ∧
     ((7 < b.toNat ∨ ∃ i : Fin 8, b = byteOf i.val ∧ ((s.trc.slots.get i).state = .free ∨
         (s.trc.slots.get i).record.snapshots (if pinion = 0 then .a else .b) = [])) →
       ∃ t, exec (.setCursor lane b pinion index direction) s = .next t ∧ t = { s with lanes := t.lanes } ∧
         Answered s t lane .setCursor [b, pinion, index, direction] ⟨0x07, .empty, s.rc.drive, []⟩ quiet)) ∧
    (∀ (s : State) (lane : Lane),
       (∀ p r, (s.lanes.get lane).cursor = .fetching p →
         ((s.trc.slots.get p.slot).record.snapshots p.pinion)[p.index]? = some r →
         exec (.fetchCompletion lane) s = .next
           { s with
             lanes := s.lanes.set lane
               { s.lanes.get lane with
                 cursor := .fetched p r
                 notices := (s.lanes.get lane).notices ||| 0x10 } }) ∧
       ((∀ p, (s.lanes.get lane).cursor ≠ .fetching p) → exec (.fetchCompletion lane) s = .next s))

/-- READ NEXT answers by the state of the lane's cursor (9.3 (R153, R154); 10.2 (R159, Tables 3 and 6)). The model's
own: the receiver is filled at the end of a selection and kept (log entry 14). -/
def Obligations.ReadNextByCursorState : Prop :=
  ∀ (s : State) (lane : Lane), Takes s lane .readNext → ∃ cursor status payload,
    exec (.readNext lane) s = .next
      { s with
        lanes := s.lanes.set lane
          { s.lanes.get lane with
            selection := .none
            receiver := requestFrame .readNext []
            cursor := cursor
            holder := ⟨0x08, status, s.rc.drive, payload⟩ } } ∧
    match (s.lanes.get lane).cursor with
    | .idle => cursor = .idle ∧ status = .noCursor ∧ payload = []
    | .fetching p =>
      cursor = .fetching p ∧ status = .wait ∧ payload = [byteOf p.slot.val, pinionCode p.pinion, byteOf p.index]
    | .fetched p r =>
      let x := (s.trc.slots.get p.slot).record
      let count := (x.pre.get p.pinion).length + (x.post.get p.pinion).length
      cursor = .fetching { p with
        index :=
          match p.direction with
          | .up => if p.index + 1 < count then p.index + 1 else 0
          | .down => if p.index = 0 then count - 1 else p.index - 1 } ∧
        status = .ok ∧
        ∃ flags, HasBits flags [r.satHi, r.satLo, r.limited, r.gap, r.post, r.trigger, r.abandoned, r.demand] ∧
          payload = nat16 p.trip ++ [byteOf p.slot.val, pinionCode p.pinion, byteOf p.index,
            if p.index < (x.pre.get p.pinion).length then 0 else 1, byteOf count] ++
            be16 r.seq ++ be16 r.iMeas ++ int16 r.iRef ++ int16 r.vDem ++ nat16 r.limit ++ [flags, r.drive.code]
    | .gone p => cursor = .idle ∧ status = .gone ∧ payload = byteOf p.slot.val :: nat16 p.trip

/-- Requests in a drive state that their rules exclude are refused with BAD_STATE (1.2 (R2, Table 2); 6.5 (R108);
11.2 (R175)). The model's own: the receiver is filled at the end of a selection and kept (log entry 14). -/
def Obligations.BadStateRefusals : Prop :=
  ∀ (s : State) (lane : Lane) (count : Byte) (straps : Straps),
    (Takes s lane .arm → s.rc.drive ≠ .halt → Refused (.arm lane) s lane .arm [] .badState) ∧
    (Takes s lane .disarm → s.rc.drive ≠ .ready → Refused (.disarm lane) s lane .disarm [] .badState) ∧
    (Takes s lane .start → s.rc.drive ≠ .ready → Refused (.start lane) s lane .start [] .badState) ∧
    (Takes s lane .inch → s.rc.drive ≠ .ready → Refused (.inch lane) s lane .inch [] .badState) ∧
    (Takes s lane .stop → s.rc.drive ≠ .run → s.rc.drive ≠ .inch →
      Refused (.stop lane) s lane .stop [] .badState) ∧
    (Takes s lane .clearTrip → s.rc.drive ≠ .tripped →
      Refused (.clearTrip lane) s lane .clearTrip [] .badState) ∧
    (Takes s lane .ackTrip → s.rc.drive ≠ .tripped → Refused (.ackTrip lane) s lane .ackTrip [] .badState) ∧
    (Takes s lane .discover → (s.rc.drive = .run ∨ s.rc.drive = .inch ∨ s.rc.drive = .stopping) →
      Refused (.discover lane count) s lane .discover [count] .badState) ∧
    (Takes s lane .reset → s.rc.drive ≠ .halt → s.rc.drive ≠ .tripped →
      Refused (.reset lane straps) s lane .reset [] .badState)

/-- ACK TRIP in TRIPPED sets the mark of the lane's pinion (1.5 (R19)). The model's own: the receiver is filled at
the end of a selection and kept (log entry 14). -/
def Obligations.AckTripSetsMark : Prop :=
  ∀ (s : State) (lane : Lane) (k : Pinion), Takes s lane .ackTrip → (s.lanes.get lane).role = pinionRole k →
    s.rc.drive = .tripped →
    ∃ t, exec (.ackTrip lane) s = .next t ∧
      t = { s with lanes := t.lanes, rc := { s.rc with ack := s.rc.ack.set k true } } ∧
      Answered s t lane .ackTrip [] ⟨0x11, .ok, .tripped, []⟩ quiet

/-- TRIP takes the drive into TRIPPED with every entry action, or adds a later cause (1.4 (R15, R16, R17, R18); 4.4
(R75); 8.3 (R139, R140, R141, R142)). The model's own: the receiver is filled at the end of a selection and kept
(log entry 14). -/
def Obligations.TripRequestEntersTripped : Prop :=
  ∀ (s : State) (lane : Lane), RauLaw s → Takes s lane .trip →
    (s.rc.drive ≠ .tripped → ∃ t, exec (.trip lane) s = .next t ∧ TripEntered s t (.commanded lane) 0 0 none [] ∧
      ∀ j, t.lanes.get j =
        if j = lane then
          { (s.lanes.get j).tripped s t.trc.current with
            selection := .none
            receiver := requestFrame .trip []
            holder := ⟨0x12, .ok, .tripped, []⟩ }
        else (s.lanes.get j).tripped s t.trc.current) ∧
    (s.rc.drive = .tripped → ∃ t, exec (.trip lane) s = .next t ∧
      t = { s with lanes := t.lanes, trc := { s.trc with slots := t.trc.slots } } ∧
      LaterCause s t (.commanded lane) ∧ Answered s t lane .trip [] ⟨0x12, .ok, .tripped, []⟩ quiet)

/-- ARM in HALT makes its two checks in order and enters READY; DISARM in READY returns the drive to HALT (1.2 (R3,
R4, R9); 1.1 (R1); 3.4 (R51); 4.2 (R63)). The model's own: the receiver is filled at the end of a selection and kept
(log entry 14). -/
def Obligations.ArmAndDisarm : Prop :=
  (∀ (s : State) (lane : Lane), LimitLaw s → Takes s lane .arm → s.rc.drive = .halt →
     (¬RolesHeld s → Refused (.arm lane) s lane .arm [] .missingRole) ∧
     (RolesHeld s → ¬ChainLocked s → Refused (.arm lane) s lane .arm [] .chainIncomplete) ∧
     (RolesHeld s → ChainLocked s → ∃ t, exec (.arm lane) s = .next t ∧
       t = { s with lanes := t.lanes, rc := { s.rc with drive := .ready } } ∧
       Answered s t lane .arm [] ⟨0x20, .ok, .ready, []⟩ stateBit)) ∧
    (∀ (s : State) (lane : Lane), Takes s lane .disarm → s.rc.drive = .ready →
       ∃ t, exec (.disarm lane) s = .next t ∧ EnteredHalt s t ∧ t.rc = { s.rc with drive := .halt, stopTimer := none } ∧
         Answered s t lane .disarm [] ⟨0x21, .ok, .halt, []⟩
           (raisedBoth stateBit (limitBit (decide (0 < s.slu.limit.a)) (decide (0 < s.slu.limit.b)))))

/-- START and INCH in READY make the role check and the readiness check, and enter RUN or INCH (1.2 (R5); 3.1 (R38,
R39); 5.4 (R90)). The model's own: the receiver is filled at the end of a selection and kept (log entry 14). -/
def Obligations.StartAndInchByTheirChecks : Prop :=
  ∀ (s : State) (lane : Lane), LimitLaw s → s.rc.drive = .ready →
    (Takes s lane .start →
      (¬RolesHeld s → Refused (.start lane) s lane .start [] .missingRole) ∧
      (RolesHeld s → ¬BothReady s → Refused (.start lane) s lane .start [] .notReady) ∧
      (RolesHeld s → BothReady s → ∃ t, exec (.start lane) s = .next t ∧
        t = { s with
          lanes := t.lanes
          rc := { s.rc with drive := .run }
          slu := { s.slu with target := t.slu.target }
          dwu := { s.dwu with filter := 0, runCount := 0 } } ∧
        (∀ k, TargetIs t k (t.slu.target.get k)) ∧ Answered s t lane .start [] ⟨0x22, .ok, .run, []⟩ stateBit)) ∧
    (Takes s lane .inch →
      (¬RolesHeld s → Refused (.inch lane) s lane .inch [] .missingRole) ∧
      (RolesHeld s → ¬BothReady s → Refused (.inch lane) s lane .inch [] .notReady) ∧
      (RolesHeld s → BothReady s → ∃ t, exec (.inch lane) s = .next t ∧
        t = { s with
          lanes := t.lanes
          rc := { s.rc with drive := .inch }
          slu := { s.slu with target := t.slu.target } } ∧
        (∀ k, TargetIs t k (t.slu.target.get k)) ∧ Answered s t lane .inch [] ⟨0x23, .ok, .inch, []⟩ stateBit))

/-- STOP in RUN or INCH enters STOPPING and starts the stop timer (1.2 (R6); 3.1 (R39); 5.4 (R90)). The model's own:
the receiver is filled at the end of a selection and kept (log entry 14). -/
def Obligations.StopEntersStopping : Prop :=
  ∀ (s : State) (lane : Lane), LimitLaw s → Takes s lane .stop → (s.rc.drive = .run ∨ s.rc.drive = .inch) →
    ∃ t, exec (.stop lane) s = .next t ∧
      t = { s with
        lanes := t.lanes
        rc := { s.rc with drive := .stopping, stopTimer := some s.dwu.watch.stopTimeout }
        slu := { s.slu with target := t.slu.target }
        dwu := if s.rc.drive = .inch then { s.dwu with filter := 0, runCount := 0 } else s.dwu } ∧
      (s.rc.drive = .run → t.slu = s.slu) ∧ (∀ k, TargetIs t k (t.slu.target.get k)) ∧
      Answered s t lane .stop [] ⟨0x24, .ok, .stopping, []⟩ stateBit

/-- CLEAR TRIP in TRIPPED makes its three checks in order and enters HALT (1.5 (R20, R21); 5.3 (R86)). The model's
own: the receiver is filled at the end of a selection and kept (log entry 14); the slot of the current trip stays
named after CLEAR TRIP (log entry 26). -/
def Obligations.ClearTripByItsChecks : Prop :=
  ∀ (s : State) (lane : Lane), Takes s lane .clearTrip → s.rc.drive = .tripped →
    (RecordFilling s → Refused (.clearTrip lane) s lane .clearTrip [] .filling) ∧
    (¬RecordFilling s → (∃ k, ¬AtRest s k) → Refused (.clearTrip lane) s lane .clearTrip [] .notReady) ∧
    (¬RecordFilling s → (∀ k, AtRest s k) → CauseActive s →
      Refused (.clearTrip lane) s lane .clearTrip [] .activeCause) ∧
    (¬RecordFilling s → (∀ k, AtRest s k) → ¬CauseActive s → ∃ t, exec (.clearTrip lane) s = .next t ∧
      EnteredHalt s t ∧ t.rc = { s.rc with drive := .halt, stopTimer := none, ack := .both false } ∧
      Answered s t lane .clearTrip [] ⟨0x25, .ok, .halt, []⟩
        (raisedBoth stateBit (limitBit (decide (0 < s.slu.limit.a)) (decide (0 < s.slu.limit.b)))))

/-- SET LIMITS writes its six bounded settings and recomputes both targets, or is refused with RANGE (3.5 (R52,
R53); 3.1 (R38, R42); 3.2 (R43); 3.3 (R48); 3.4 (R51); 10.2 (R159, Table 6)). The model's own: the receiver is
filled at the end of a selection and kept (log entry 14). -/
def Obligations.SetLimitsWritesAndRetargets : Prop :=
  ∀ (s : State) (lane : Lane) (p a b d i r : Word16), LimitLaw s → Takes s lane .setLimits →
    (min p.toNat 32767 < min d.toNat 32767 →
      Refused (.setLimits lane p a b d i r) s lane .setLimits (limitsPayload p a b d i r) .range) ∧
    (min d.toNat 32767 ≤ min p.toNat 32767 →
      ∃ t u, exec (.setLimits lane p a b d i r) s = .next t ∧
        u = { s with slu := { s.slu with
          plant := min p.toNat 32767
          ceil := ⟨min a.toNat 32767, min b.toNat 32767⟩
          derate := min d.toNat 32767
          inch := min i.toNat 32767
          rampStep := min r.toNat 4096 } } ∧
        t = { s with lanes := t.lanes, slu := t.slu } ∧ Retargeted u t ∧
        Answered s t lane .setLimits (limitsPayload p a b d i r)
          ⟨0x26, .ok, s.rc.drive,
            nat16 (min p.toNat 32767) ++ nat16 (min a.toNat 32767) ++ nat16 (min b.toNat 32767) ++
              nat16 (min d.toNat 32767) ++ nat16 (min i.toNat 32767) ++ nat16 (min r.toNat 4096)⟩ (limitFalls s t))

/-- SET GAINS applies its set outside regulation, stages it in regulation, or is refused with RANGE (4.1 (R58); 4.2
(R59, R60, R61, R62); 10.2 (R159, Table 6)). The model's own: the receiver is filled at the end of a selection and
kept (log entry 14). -/
def Obligations.SetGainsAppliesOrStages : Prop :=
  ∀ (s : State) (lane : Lane) (kp ki : Word16) (ff : Byte) (lo hi : Word16), Takes s lane .setGains →
    ((0 < lo.toInt ∨ hi.toInt < 0) →
      Refused (.setGains lane kp ki ff lo hi) s lane .setGains (gainsPayload kp ki ff lo hi) .range) ∧
    (lo.toInt ≤ 0 → 0 ≤ hi.toInt →
      ∃ t g number, number = (if s.crg.lastSet < 255 then s.crg.lastSet + 1 else 1) ∧
        g = ⟨kp.toNat, ki.toNat, decide (ff ≠ 0), lo.toInt, hi.toInt, number⟩ ∧
        exec (.setGains lane kp ki ff lo hi) s = .next t ∧
        (InRegulation s → t = { s with
          lanes := t.lanes, crg := { s.crg with staged := some ⟨g, .both true⟩, lastSet := number } }) ∧
        (¬InRegulation s → t = { s with
          lanes := t.lanes, crg := { s.crg with applied := .both g, staged := none, lastSet := number } }) ∧
        ∃ take : Byte, (InRegulation s → take = 1) ∧ (¬InRegulation s → take = 0) ∧
          Answered s t lane .setGains (gainsPayload kp ki ff lo hi)
            ⟨0x27, .ok, s.rc.drive,
              be16 kp ++ be16 ki ++ [if ff = 0 then 0 else 1] ++ be16 lo ++ be16 hi ++
                [byteOf number, take, take]⟩ quiet)

/-- SET SHARE stores the lead pinion and the clamped offset, and touches no split (2.1 (R24); 10.2 (R159, Table 6)).
The model's own: the receiver is filled at the end of a selection and kept (log entry 14). -/
def Obligations.SetShareStoresLeadAndOffset : Prop :=
  ∀ (s : State) (lane : Lane) (lead : Byte) (offset : Word16), Takes s lane .setShare → ∃ (t : State) (d : Int),
    (offset.toInt < -3277 → d = -3277) ∧ (3277 < offset.toInt → d = 3277) ∧
    (-3277 ≤ offset.toInt → offset.toInt ≤ 3277 → d = offset.toInt) ∧
    exec (.setShare lane lead offset) s = .next t ∧
    t = { s with lanes := t.lanes, slu := { s.slu with lead := if lead = 0 then .a else .b, offset := d } } ∧
    Answered s t lane .setShare (lead :: be16 offset)
      ⟨0x28, .ok, s.rc.drive, (if lead = 0 then 0 else 1) :: int16 d⟩ quiet

/-- SET WATCH stores ten bounded settings and compares both overload sums with the new Q (5.5 (R91); 5.3 (R85); 1.4
(R15, R17); 8.3 (R139, R140, R141, R142); 10.2 (R159, Table 6)). The model's own: the receiver is filled at the end
of a selection and kept (log entry 14); SET WATCH compares the sums also where Q is unchanged (log entry 27). -/
def Obligations.SetWatchStoresAndCompares : Prop :=
  ∀ (s : State) (lane : Lane) (oc : Word16) (q : Word32) (dec imb : Word16) (sh per : Byte) (zb zs st : Word16)
    (sc : Byte), RauLaw s → Takes s lane .setWatch → ∃ (w : WatchSettings) (u t : State) (reply : DriveState → Reply),
    w = ⟨min oc.toNat 32768, max q.toNat 1, dec.toNat, imb.toNat, min (max sh.toNat 4) 10, max per.toNat 1,
      min zb.toNat 32768, min zs.toNat 32768, min (max st.toNat 1) 600, min sc.toNat 7⟩ ∧
    u = { s with dwu := { s.dwu with watch := w, ol := ⟨min s.dwu.ol.a w.q, min s.dwu.ol.b w.q⟩ } } ∧
    (reply = fun d => ⟨0x29, .ok, d,
      nat16 w.oc ++ nat32 w.q ++ nat16 w.decay ++ nat16 w.imbalance ++ [byteOf w.shift, byteOf w.persistence] ++
        nat16 w.zeroBand ++ nat16 w.zeroSpeed ++ nat16 w.stopTimeout ++ [byteOf w.silenceCode] ++
        nat32 u.dwu.ol.a ++ nat32 u.dwu.ol.b⟩) ∧
    exec (.setWatch lane oc q dec imb sh per zb zs st sc) s = .next t ∧
    (s.dwu.ol.a < w.q → s.dwu.ol.b < w.q → t = { u with lanes := t.lanes } ∧
      Answered s t lane .setWatch (watchPayload oc q dec imb sh per zb zs st sc) (reply s.rc.drive) quiet) ∧
    ∀ first later, (w.q ≤ s.dwu.ol.a → first = Cause.overload .a ∧
          later = if w.q ≤ s.dwu.ol.b then [Cause.overload .b] else []) →
      (s.dwu.ol.a < w.q → first = Cause.overload .b ∧ later = []) → (w.q ≤ s.dwu.ol.a ∨ w.q ≤ s.dwu.ol.b) →
      (s.rc.drive ≠ .tripped → TripEntered u t first w.q w.q none later ∧ ∀ j, t.lanes.get j =
        if j = lane then
          { (u.lanes.get j).tripped u t.trc.current with
            selection := .none
            receiver := requestFrame .setWatch (watchPayload oc q dec imb sh per zb zs st sc)
            holder := reply .tripped }
        else (u.lanes.get j).tripped u t.trc.current) ∧
      (s.rc.drive = .tripped → ∃ x, Offered u x (first :: later) ∧ t = { x with lanes := t.lanes } ∧
        Answered s t lane .setWatch (watchPayload oc q dec imb sh per zb zs st sc) (reply .tripped) quiet)

/-- SET CHANNEL stores a channel's configuration with the consequences of R118, or is refused with RANGE (7.1 (R117,
R118); 7.5 (R128); 3.1 (R40); 3.2 (R43); 10.2 (R159, Table 6)). The model's own: the receiver is filled at the end
of a selection and kept (log entry 14). -/
def Obligations.SetChannelByItsTable : Prop :=
  ∀ (s : State) (lane : Lane) (ch en gr : Byte) (al da hy : Word16) (tr : Byte) (i : Channel), LimitLaw s →
    Takes s lane .setChannel → i.val = min ch.toNat 7 →
    (¬(al.toNat < da.toNat ∧ hy.toNat < al.toNat) →
      Refused (.setChannel lane ch en gr al da hy tr) s lane .setChannel (channelPayload ch en gr al da hy tr) .range) ∧
    (al.toNat < da.toNat → hy.toNat < al.toNat →
      ∃ (t u : State) (c : ChannelEntry) (g : ChannelConfig), c = s.vlu.channels.get i ∧
        g = ⟨decide (en ≠ 0), if gr = 0 then .a else if gr = 1 then .b else .common, al.toNat, da.toNat, hy.toNat,
          decide (tr ≠ 0)⟩ ∧
        u = { s with vlu := { s.vlu with channels := u.vlu.channels } } ∧
        u.vlu.channels = s.vlu.channels.set i
          (if c.config.enabled = true ∧ en = 0 then { c.forgotten with config := g } else { c with config := g }) ∧
        exec (.setChannel lane ch en gr al da hy tr) s = .next t ∧
        t = { u with lanes := t.lanes, slu := t.slu } ∧ Retargeted u t ∧
        Answered s t lane .setChannel (channelPayload ch en gr al da hy tr)
          ⟨0x2A, .ok, s.rc.drive,
            [byteOf i.val, if en = 0 then 0 else 1, if gr = 0 then 0 else if gr = 1 then 1 else 2] ++ be16 al ++
              be16 da ++ be16 hy ++ [if tr = 0 then 0 else 1, (u.vlu.channels.get i).state.code]⟩
          (raisedBoth (vibMoves s u i) (limitFalls s t)))

/-- SET CHAIN stores the round rate and the window settings; a change of W empties every window (6.6 (R113); 7.2
(R119); 6.1 (R95); 10.2 (R159, Table 6)). The model's own: the receiver is filled at the end of a selection and kept
(log entry 14). -/
def Obligations.SetChainStoresSettings : Prop :=
  ∀ (s : State) (lane : Lane) (rate window na nd nc : Byte), Takes s lane .setChain → ∃ (t : State) (r : RoundRate),
    (rate.toNat = 0 → r = .r1024) ∧ (rate.toNat = 1 → r = .r2048) ∧ (2 ≤ rate.toNat → r = .r4096) ∧
    exec (.setChain lane rate window na nd nc) s = .next t ∧
    t = { s with
      lanes := t.lanes
      scc := { s.scc with rate := r }
      vlu := ⟨t.vlu.channels, min window.toNat 4, min (max na.toNat 1) 15, min (max nd.toNat 1) 15,
        min (max nc.toNat 1) 15⟩ } ∧
    (min window.toNat 4 = s.vlu.windowCode → t.vlu.channels = s.vlu.channels) ∧
    (min window.toNat 4 ≠ s.vlu.windowCode → ∀ c, t.vlu.channels.get c = (s.vlu.channels.get c).emptied) ∧
    Answered s t lane .setChain [rate, window, na, nd, nc]
      ⟨0x2B, .ok, s.rc.drive, [byteOf (min rate.toNat 2), byteOf (min window.toNat 4), byteOf (min (max na.toNat 1) 15),
        byteOf (min (max nd.toNat 1) 15), byteOf (min (max nc.toNat 1) 15)]⟩ quiet

/-- DISCOVER outside regulation starts a discovery, or is refused with BUSY while one runs (6.5 (R108, R109); 7.6
(R130); 7.5 (R128); 3.1 (R42); 10.2 (R159, Table 6)). The model's own: the receiver is filled at the end of a
selection and kept (log entry 14). -/
def Obligations.DiscoverStartsADiscovery : Prop :=
  ∀ (s : State) (lane : Lane) (count : Byte), LimitLaw s → Takes s lane .discover → ¬InRegulation s →
    (s.scc.discovery ≠ none → Refused (.discover lane count) s lane .discover [count] .busy) ∧
    (s.scc.discovery = none → ∃ t u : State,
      u = { s with
        scc := { s.scc with
          nodes := u.scc.nodes
          discovery := some ⟨min (max count.toNat 1) 8, .clear false, 0⟩
          lastResult := .running }
        vlu := { s.vlu with channels := u.vlu.channels } } ∧
      (∀ c, u.scc.nodes.get c = ⟨.absent, none, 48 + 48 * c.val, 0, 0, 0⟩) ∧
      (∀ c, u.vlu.channels.get c =
        if (s.vlu.channels.get c).config.enabled then (s.vlu.channels.get c).forgotten else s.vlu.channels.get c) ∧
      exec (.discover lane count) s = .next t ∧ t = { u with lanes := t.lanes, slu := t.slu } ∧ Retargeted u t ∧
      Answered s t lane .discover [count] ⟨0x2C, .accepted, s.rc.drive, [byteOf (min (max count.toNat 1) 8)]⟩
        (raisedBoth (if ∃ c, (s.vlu.channels.get c).config.enabled = true ∧ (s.vlu.channels.get c).state ≠ .unknown
          then watcherBit 0x04 else quiet) (limitFalls s t)))

/-- RELEASE frees a CLOSED or READ record, or empties the overflow summary (8.4 (R146); 9.4 (R155)). The model's
own: the receiver is filled at the end of a selection and kept (log entry 14). -/
def Obligations.ReleaseFreesASlot : Prop :=
  ∀ (s : State) (lane : Lane) (b : Byte), Takes s lane .release →
    (∀ i : Fin 8, b = byteOf i.val →
      ((s.trc.slots.get i).state = .closed ∨ (s.trc.slots.get i).state = .read → ∃ t, exec (.release lane b) s = .next t ∧
        t = { s with
          lanes := t.lanes
          trc := { s.trc with slots := s.trc.slots.set i ⟨.free, (s.trc.slots.get i).record⟩ } } ∧
        Answered s t lane .release [b] ⟨0x2D, .ok, s.rc.drive, []⟩ quiet) ∧
      ((s.trc.slots.get i).state = .filling → Refused (.release lane b) s lane .release [b] .filling) ∧
      ((s.trc.slots.get i).state = .free → Refused (.release lane b) s lane .release [b] .empty)) ∧
    (b = 8 → ∃ t, exec (.release lane b) s = .next t ∧
      t = { s with lanes := t.lanes, trc := { s.trc with overflow := none, unrecorded := 0 } } ∧
      Answered s t lane .release [b] ⟨0x2D, .ok, s.rc.drive, []⟩ quiet) ∧
    (8 < b.toNat → Refused (.release lane b) s lane .release [b] .empty)

/-- SET TIME, CLEAR CAPTURE and CLEAR CAUSES each change their own item (11.1 (R173); 10.5 (R165); 11.2 (R174)). The
model's own: the receiver is filled at the end of a selection and kept (log entry 14). -/
def Obligations.TimeCaptureAndCauses : Prop :=
  ∀ (s : State) (lane : Lane) (time : Word32),
    (Takes s lane .setTime → ∃ t, exec (.setTime lane time) s = .next t ∧
      t = { s with lanes := t.lanes, tbu := { s.tbu with time := time } } ∧
      Answered s t lane .setTime (be32 time) ⟨0x2E, .ok, s.rc.drive, be32 time⟩ quiet) ∧
    (Takes s lane .clearCapture → ∃ t, exec (.clearCapture lane) s = .next t ∧
      t = { s with lanes := t.lanes, capture := none } ∧
      Answered s t lane .clearCapture [] ⟨0x2F, .ok, s.rc.drive, []⟩ quiet) ∧
    (Takes s lane .clearCauses → ∃ t, exec (.clearCauses lane) s = .next t ∧
      t = { s with lanes := t.lanes, tbu := { s.tbu with causes := ⟨false, false, false⟩ } } ∧
      Answered s t lane .clearCauses [] ⟨0x30, .ok, s.rc.drive, []⟩ quiet)

/-- RESET, the reset pin and power-on put every block into its reset values (11.2 (R174, R175); 11.3 (R176); 8.5
(R148, R149); 10.3 (R164); 9.4 (R157); 7.8 (R132)). The model's own: the queue goes on (log entry 1); an event that
cannot happen in its state changes nothing (log entry 4); the straps are operands, and State.reset names them (log
entry 6); a FREE slot holds a blank record after power-on (log entry 8); the frame already fixed for shifting out
stays through a reset (log entry 9); the counter of free values goes on (log entry 11); no round is in progress
after a reset (log entry 16); the roles stay while the reset pin is low (log entry 20). -/
def Obligations.ResetsAndTheirCauses : Prop :=
  ∀ (s : State) (lane : Lane) (straps : Straps) (pinLow : Bool),
    (Takes s lane .reset → (s.rc.drive = .halt ∨ s.rc.drive = .tripped) → ∃ t, exec (.reset lane straps) s = .next t ∧
      WarmReset s t { s.tbu.causes with plantReset := true } .initialising ∧
      ∀ j, t.lanes.get j =
        ({ s.lanes.get j with selection := if j = lane then .none else (s.lanes.get j).selection } :
          LaneState).restarted (settleRole straps j)) ∧
    (s.tbu.phase ≠ .held → ∃ t, exec .resetPin s = .next t ∧
      WarmReset s t { s.tbu.causes with resetPin := true } .held ∧
      ∀ j, t.lanes.get j = (s.lanes.get j).restarted ((s.lanes.get j).role, (s.lanes.get j).conflict)) ∧
    (s.tbu.phase = .held → exec .resetPin s = .next s) ∧
    ∃ t, exec (.powerOn straps pinLow) s = .next t ∧
      (pinLow = false → ColdReset s t .initialising ∧
        ∀ j, t.lanes.get j = (s.lanes.get j).restarted (settleRole straps j)) ∧
      (pinLow = true → ColdReset s t .held ∧
        ∀ j, t.lanes.get j = (s.lanes.get j).restarted ((s.lanes.get j).role, (s.lanes.get j).conflict))

/-- Roles are settled from the straps at the release; the initialisation's end raises STATE on every lane (11.3
(R176); 10.1 (R158); 10.3 (R164)). The model's own: an event that cannot happen in its state changes nothing (log
entry 4); the straps are operands, and State.reset names them (log entry 6); the frame already fixed for shifting
out stays through a reset (log entry 9); the roles stay while the reset pin is low (log entry 20); a selection begun
under the reset pin takes nothing also after the release (log entry 21). -/
def Obligations.RolesAndInitialisation : Prop :=
  (∀ (s : State) (straps : Straps),
     (s.tbu.phase = .held → ∃ t, exec (.resetPinRelease straps) s = .next t ∧
       t = { s with lanes := t.lanes, tbu := { s.tbu with phase := .initialising } } ∧
       ∀ j, t.lanes.get j = (s.lanes.get j).restarted (settleRole straps j)) ∧
     (s.tbu.phase ≠ .held → exec (.resetPinRelease straps) s = .next s) ∧
     (s.tbu.phase = .initialising → ∃ t, exec .initialisationEnd s = .next t ∧
       t = { s with lanes := t.lanes, tbu := { s.tbu with phase := .working } } ∧ OnlyNotices s t stateBit) ∧
     (s.tbu.phase ≠ .initialising → exec .initialisationEnd s = .next s)) ∧
    (∀ (straps : Straps) (j : Lane) (r : Role),
       (r ≠ .monitor → ((settleRole straps j).1 = r ↔
         (straps.get j).toNat = r.code.toNat ∧ ∀ i, i < j → (straps.get i).toNat ≠ r.code.toNat)) ∧
       ((settleRole straps j).2 = true ↔ straps.get j ≠ 3 ∧ ∃ i, i < j ∧ straps.get i = straps.get j))

/-- The end of a millisecond and the ramp tick (11.1 (R172); 3.2 (R45, R46); 3.4 (R51); 5.3 (R84); 11.3 (R176)). The
model's own: an event that cannot happen in its state changes nothing (log entry 4); LIMIT where a fall and a tick
meet (log entry 32). -/
def Obligations.TimeCountAndRampTick : Prop :=
  ∀ s : State,
    (s.tbu.phase ≠ .held →
      exec .timeCountAdvance s = .next { s with tbu := { s.tbu with time := s.tbu.time + 1 } } ∧
      (LimitLaw s → ∃ t, exec .rampTick s = .next t ∧
        t = { s with
          lanes := t.lanes
          slu := { s.slu with limit := t.slu.limit, iref := t.slu.iref, limited := t.slu.limited }
          dwu := { s.dwu with ol := ⟨s.dwu.ol.a - s.dwu.watch.decay, s.dwu.ol.b - s.dwu.watch.decay⟩ } } ∧
        (∀ k, t.slu.limit.get k = min (s.slu.limit.get k + s.slu.rampStep) (s.slu.target.get k) ∧ LimitChain t k) ∧
        OnlyNotices s t (limitBit
          (decide (s.slu.limit.a < s.slu.target.a ∧ t.slu.limit.a = s.slu.target.a))
          (decide (s.slu.limit.b < s.slu.target.b ∧ t.slu.limit.b = s.slu.target.b))))) ∧
    (s.tbu.phase = .held → exec .timeCountAdvance s = .next s ∧ exec .rampTick s = .next s)

/-- A silence timer expiry marks its pinion silent and acts by the drive state (1.3 (R11, R12); 1.4 (R15); 4.4
(R75); 8.3 (R139, R140, R141)). The model's own: an event that cannot happen in its state changes nothing (log entry
4). -/
def Obligations.SilenceTimerExpiryByDriveState : Prop :=
  (∀ (s u : State) (k : Pinion) (period : Nat), RauLaw s → s.rc.silenceTimer.get k = some period →
     u = { s with rc := { s.rc with
       silenceTimer := s.rc.silenceTimer.set k none, silent := s.rc.silent.set k true } } →
     (s.rc.drive = .halt ∨ s.rc.drive = .tripped → exec (.silenceTimerExpiry k) s = .next u) ∧
     (s.rc.drive = .ready → exec (.silenceTimerExpiry k) s = .next
       { u with rc := { u.rc with
         latest := s.rc.latest.set k ((s.rc.latest.get k).map fun l => { l with ready := false }) } }) ∧
     (InRegulation s → ∃ t, exec (.silenceTimerExpiry k) s = .next t ∧
       TripEntered u t (.laneSilent k) period period none [] ∧
       ∀ j, t.lanes.get j = (s.lanes.get j).tripped s t.trc.current)) ∧
    ∀ (s : State) (k : Pinion), s.rc.silenceTimer.get k = none → exec (.silenceTimerExpiry k) s = .next s

/-- The stop timer trips with STOP_TIMEOUT; the post-trip timer closes the FILLING record (1.2 (R8); 1.4 (R15); 8.3
(R144, R139, R140, R141); 4.4 (R75)). The model's own: an event that cannot happen in its state changes nothing (log
entry 4). -/
def Obligations.StopAndPostTripTimers : Prop :=
  ∀ s : State,
    (RauLaw s → s.rc.drive = .stopping → s.rc.stopTimer ≠ none → ∃ t, exec .stopTimerExpiry s = .next t ∧
      TripEntered s t .stopTimeout
        (max ((s.rc.latest.a.map fun l => l.n.toInt.natAbs).getD 0) ((s.rc.latest.b.map fun l => l.n.toInt.natAbs).getD 0))
        s.dwu.watch.zeroSpeed none [] ∧
      ∀ j, t.lanes.get j = (s.lanes.get j).tripped s t.trc.current) ∧
    (s.rc.stopTimer = none → exec .stopTimerExpiry s = .next s) ∧
    (∀ i, s.trc.postTimer = true → s.trc.current = some i → (s.trc.slots.get i).state = .filling →
      ∃ t, exec .postTripTimerExpiry s = .next t ∧
        t = { s with
          lanes := t.lanes
          trc := { s.trc with slots := s.trc.slots.set i ⟨.closed, (s.trc.slots.get i).record⟩, postTimer := false } } ∧
        OnlyNotices s t (fun _ => 0x02)) ∧
    (s.trc.postTimer = false → exec .postTripTimerExpiry s = .next s)

/-- A round start forms the poll from the node table, the enabled flags and the discovery (6.1 (R95, R96, R97); 6.2
(Table 2); 6.5 (R109, R110)). The model's own: a round in progress is its open windows, and none overtakes another
(log entry 16); search rounds are counted by their polls (log entry 18). -/
def Obligations.RoundStartSendsThePoll : Prop :=
  ∀ s : State, s.tbu.phase ≠ .held → ∃ (t : State) (span : Option (Fin 8)) (mark : BitVec 4) (search : Option (Fin 8))
      (w : BitVec 11),
    exec .roundStart s = .next t ∧
    t = { s with scc := { s.scc with
      nodes := t.scc.nodes, timerRate := s.scc.rate, discovery := t.scc.discovery, poll := some w, lastSpan := span
      round := t.scc.round } } ∧
    (∀ e, span = some e → (s.scc.nodes.get e).state = .locked ∧ (s.vlu.channels.get e).config.enabled = true) ∧
    (∀ c, (s.scc.nodes.get c).state = .locked → (s.vlu.channels.get c).config.enabled = true →
      ∃ e, span = some e ∧ c ≤ e) ∧
    (match s.scc.discovery with
     | none => mark = 15 ∧ search = none ∧ t.scc.discovery = none
     | some ⟨count, .clear false, found⟩ =>
       mark = 8 ∧ search = none ∧ t.scc.discovery = some ⟨count, .clear true, found⟩
     | some ⟨count, .clear true, found⟩ =>
       mark = 0 ∧ search = some 0 ∧ t.scc.discovery = some ⟨count, .search 0 1, found⟩
     | some ⟨count, .search n rounds, found⟩ =>
       mark.toNat = n.val ∧ search = some n ∧ t.scc.discovery = some ⟨count, .search n (rounds + 1), found⟩) ∧
    (w.extractLsb' 9 2 = 0b11 ∧ (w.extractLsb' 5 4).toNat = (span.map Fin.val).getD 15 ∧ w.extractLsb' 1 4 = mark ∧
      onesBelow w 9 % 2 = 0) ∧
    (∀ c, t.scc.nodes.get c =
      if search = some c then { s.scc.nodes.get c with state := .searching } else s.scc.nodes.get c) ∧
    (∀ c, ((∃ r, t.scc.round = some r ∧ c ∈ r.polled) ↔
      ∃ e, span = some e ∧ c ≤ e ∧ (s.scc.nodes.get c).state = .locked)) ∧
    (∀ c, ((∃ r, t.scc.round = some r ∧ r.search = some c) ↔ search = some c))

/-- The close of a polled position's window settles the outcome and hands the sample over (6.2 (R98, R99); 6.3
(R101, R102, R103, R104); 7.3 (R120, R121); 7.4 (R122); 6.1 (R97); 6.5 (R109)). The model's own: an event that
cannot happen in its state changes nothing (log entry 4); the words that come back are an operand of the close, in
the order they start (log entry 15); a round in progress is its open windows, and none overtakes another (log entry
16). -/
def Obligations.PolledWindowOutcome : Prop :=
  ∀ (s : State) (c : Fin 8) (words : List ChainWord),
    (∀ (r : Round) (e : NodeEntry) (x : Option Int), VibrationLaw s → s.scc.round = some r → c ∈ r.polled →
      (s.scc.nodes.get c).state = .locked → Heard (s.scc.nodes.get c) c words e x → e.state ≠ .lost →
      ∃ o, WindowShut r c o ∧ exec (.replyWindowClose c words) s = .next
        { s with
          scc := { s.scc with nodes := s.scc.nodes.set c e, round := o }
          vlu := { s.vlu with
            channels :=
              if (s.vlu.channels.get c).config.enabled then
                s.vlu.channels.set c ((s.vlu.channels.get c).handed x s.vlu.windowCode)
              else s.vlu.channels } }) ∧
    (∀ r : Round, s.scc.round = some r → c ∈ r.polled → (s.scc.nodes.get c).state ≠ .locked →
      ∃ o, WindowShut r c o ∧ exec (.replyWindowClose c words) s = .next { s with scc := { s.scc with round := o } }) ∧
    (¬WindowOpen s c → exec (.replyWindowClose c words) s = .next s)

/-- The sixteenth failed round in a row loses the node and, with trip-on-loss, trips the drive (6.3 (R104); 7.6
(R129); 7.5 (R128); 1.4 (R15, R17); 8.3 (R139, R140, R141)). The model's own: the words that come back are an
operand of the close, in the order they start (log entry 15); a round in progress is its open windows, and none
overtakes another (log entry 16); the limits of a record opened are those before the whole event (log entry 19). -/
def Obligations.SixteenthFailureLosesTheNode : Prop :=
  ∀ (s : State) (c : Fin 8) (words : List ChainWord) (r : Round) (e : NodeEntry) (x : Option Int), LimitLaw s → RauLaw s →
    s.scc.round = some r → c ∈ r.polled → (s.scc.nodes.get c).state = .locked →
    Heard (s.scc.nodes.get c) c words e x → e.state = .lost →
    e.miss = 16 ∧ 15 ≤ (s.scc.nodes.get c).miss ∧ ∃ (o : Option Round) (u t : State), WindowShut r c o ∧
      u = { s with
        scc := { s.scc with nodes := s.scc.nodes.set c e, round := o }
        vlu := { s.vlu with channels := s.vlu.channels.set c (s.vlu.channels.get c).forgotten } } ∧
      exec (.replyWindowClose c words) s = .next t ∧
      ((s.vlu.channels.get c).config.enabled = true → (s.vlu.channels.get c).config.tripOnLoss = true →
        ChannelReports s u t c (.chainLoss c) 16 16) ∧
      (¬((s.vlu.channels.get c).config.enabled = true ∧ (s.vlu.channels.get c).config.tripOnLoss = true) →
        ChannelSettled s u t c)

/-- The close of the search position's window locks the node, goes on, or ends the discovery (6.5 (R110, R111); 6.2
(R98)). The model's own: the words that come back are an operand of the close, in the order they start (log entry
15); a round in progress is its open windows, and none overtakes another (log entry 16); search rounds are counted
by their polls (log entry 18). -/
def Obligations.SearchWindowOutcome : Prop :=
  ∀ (s : State) (c : Fin 8) (words : List ChainWord) (r : Round) (count rounds found : Nat), count ≤ 8 →
    s.scc.round = some r → c ∉ r.polled → r.search = some c → s.scc.discovery = some ⟨count, .search c rounds, found⟩ →
    ∃ o, WindowShut r c o ∧
    (∀ w, FirstIn c words w → Passes 0b11 w → (w.bits.extractLsb' 11 3).toNat = c.val →
      ∃ t, exec (.replyWindowClose c words) s = .next t ∧
        t = { s with lanes := t.lanes, scc := { s.scc with
          nodes := s.scc.nodes.set c { s.scc.nodes.get c with
            state := .locked, identity := some (w.bits.extractLsb' 1 10), expected := w.start, miss := 0 }
          round := o, discovery := t.scc.discovery, lastResult := t.scc.lastResult } } ∧
        (∀ next : Fin 8, next.val = c.val + 1 → c.val + 1 < count →
          t.scc.discovery = some ⟨count, .search next 0, c.val + 1⟩ ∧ t.scc.lastResult = s.scc.lastResult ∧
            t.lanes = s.lanes) ∧
        (count ≤ c.val + 1 → t.scc.discovery = none ∧ t.scc.lastResult = .foundOf (c.val + 1) count ∧
          OnlyNotices s t (watcherBit 0x20))) ∧
    ((∀ w, FirstIn c words w → ¬(Passes 0b11 w ∧ (w.bits.extractLsb' 11 3).toNat = c.val)) →
      (rounds < 64 → exec (.replyWindowClose c words) s = .next { s with scc := { s.scc with round := o } }) ∧
      (64 ≤ rounds → ∃ t, exec (.replyWindowClose c words) s = .next t ∧
        t = { s with lanes := t.lanes, scc := { s.scc with
          nodes := s.scc.nodes.set c { s.scc.nodes.get c with state := .absent }
          round := o, discovery := none, lastResult := .foundOf c.val count } } ∧
        OnlyNotices s t (watcherBit 0x20)))

/-- The completion of a level computation writes the level record, the counters and the state (7.4 (R123, R124); 7.5
(R125, R126, R127, R128); 1.4 (R15, R17); 8.3 (R139, R140, R141)). The model's own: an event that cannot happen in
its state changes nothing (log entry 4); the limits of a record opened are those before the whole event (log entry
19). -/
def Obligations.LevelCompletionUpdatesTheChannel : Prop :=
  ∀ (s : State) (c : Channel), LimitLaw s → RauLaw s →
    ((s.vlu.channels.get c).computation = none → exec (.levelComputationCompletion c) s = .next s) ∧
    ∀ l, (s.vlu.channels.get c).computation = some l → ∃ (d : ChannelEntry) (u t : State) (rms : Nat),
      LevelWritten s.vlu (s.vlu.channels.get c) d l s.tbu.time ∧ IsLevel l rms ∧
      u = { s with vlu := { s.vlu with channels := s.vlu.channels.set c d } } ∧
      exec (.levelComputationCompletion c) s = .next t ∧
      (d.state = .danger → (s.vlu.channels.get c).state ≠ .danger →
        ChannelReports s u t c (.vibDanger c) rms d.config.danger) ∧
      (¬(d.state = .danger ∧ (s.vlu.channels.get c).state ≠ .danger) → ChannelSettled s u t c)

/-- A SAMPLE outside regulation is heard, watched, recorded and answered with v_dem 0 (1.3 (R10, R11, R13); 5.1
(R80); 5.3 (R82); 2.2 (R27, R28); 4.5 (R77); 8.1 (R133, R134, R135); 8.3 (R142, R143, R144)). The model's own: the
receiver is filled at the end of a selection and kept (log entry 14). -/
def Obligations.SampleOutsideRegulation : Prop :=
  ∀ (s : State) (lane : Lane) (k : Pinion) (iMeas n : Word16) (counter bridge : Byte) (demand : Option Word16),
    Takes s lane .sample → (s.lanes.get lane).role = pinionRole k →
    (s.rc.drive = .tripped ∨ ((s.rc.drive = .halt ∨ s.rc.drive = .ready) ∧ Calm s k iMeas bridge)) →
    ∃ (t u v : State) (e : Entry) (f : LaneState → Byte) (r : Reply),
      exec (.sample lane iMeas n counter bridge demand) s = .next t ∧
      e = ⟨k, iMeas, n, counter, false, decide (demand ≠ none ∧ k ≠ s.slu.lead), s.rc.drive⟩ ∧
      u = { s with rc := heardBy s k iMeas n bridge, dwu := u.dwu } ∧ Watched s u k iMeas bridge ∧
      Offered u v ((firstReports s k iMeas bridge).map (·.1)) ∧ t = { v with lanes := t.lanes, trc := t.trc } ∧
      Written v t k (sampleRecord v e 0 false false) counter ∧ CloseBit v k f ∧
      SampleReply s k 0 e.demandIgnored false false false false r ∧
      Answered s t lane .sample (samplePayload iMeas n counter bridge demand) r f

/-- A SAMPLE in regulation is split and entered into the RAU; the lane becomes pending (1.3 (R10, R11); 5.4 (R87,
R88, R89); 2.2 (R26, R27); 2.3 (R29, R30, R31); 4.3 (R64); 4.4 (R70, R72); 4.2 (R61); 10.3 (R162)). The model's own:
the receiver is filled at the end of a selection and kept (log entry 14). -/
def Obligations.SampleInRegulationEntersTheRau : Prop :=
  ∀ (s : State) (lane : Lane) (k : Pinion) (iMeas n : Word16) (counter bridge : Byte) (demand : Option Word16),
    Takes s lane .sample → (s.lanes.get lane).role = pinionRole k → InRegulation s → Calm s k iMeas bridge →
    ¬(s.rc.drive = .stopping ∧ NearStandstill s k n) →
    ∃ (t : State) (e : Entry),
      exec (.sample lane iMeas n counter bridge demand) s = .next t ∧
      e = ⟨k, iMeas, n, counter, decide (demand ≠ none ∧ k = s.slu.lead), decide (demand ≠ none ∧ k ≠ s.slu.lead),
        s.rc.drive⟩ ∧
      t = { s with
        rc := heardBy s k iMeas n bridge, dwu := t.dwu, slu := t.slu, crg := t.crg, rau := t.rau
        lanes := s.lanes.set lane { s.lanes.get lane with
          selection := .none
          receiver := requestFrame .sample (samplePayload iMeas n counter bridge demand) } } ∧
      Watched s t k iMeas bridge ∧ Split s.slu t.slu k demand ∧
      (s.rau.inFlight = none → ∃ c, Starts t.slu s.crg t.crg e c ∧ t.rau = ⟨some c, s.rau.waiting⟩) ∧
      (∀ c, s.rau.inFlight = some c → t.crg = s.crg ∧ t.rau = ⟨some c, s.rau.waiting ++ [e]⟩) ∧
      t.lanePending lane = true

/-- A SAMPLE that finds both speeds in the zero-speed band ends the stop (1.2 (R7, R9); 4.2 (R63); 4.4 (R75); 4.5
(R77); 3.1 (R39); 3.4 (R51); 2.2 (R27, R28)). The model's own: the receiver is filled at the end of a selection and
kept (log entry 14). -/
def Obligations.SampleEndsTheStop : Prop :=
  ∀ (s : State) (lane : Lane) (k : Pinion) (iMeas n : Word16) (counter bridge : Byte) (demand : Option Word16),
    RauLaw s → TableLaw s → Takes s lane .sample → (s.lanes.get lane).role = pinionRole k → s.rc.drive = .stopping →
    Calm s k iMeas bridge → NearStandstill s k n →
    ∃ (t u : State) (e : Entry),
      exec (.sample lane iMeas n counter bridge demand) s = .next t ∧
      e = ⟨k, iMeas, n, counter, false, decide (demand ≠ none ∧ k ≠ s.slu.lead), .stopping⟩ ∧
      u = { s with slu := s.slu.atRest } ∧
      t = { s with
        rc := { heardBy s k iMeas n bridge with drive := .ready, stopTimer := none }
        dwu := t.dwu
        slu := s.slu.atRest
        crg :=
          { acc := .both 0, sat := .both .zero, applied := ⟨s.crg.settled .a, s.crg.settled .b⟩, staged := none,
            lastSet := s.crg.lastSet }
        rau := ⟨none, []⟩
        trc := { s.trc with rings := t.trc.rings, nextSeq := t.trc.nextSeq, prevCounter := t.trc.prevCounter }
        lanes := t.lanes } ∧
      Watched s t k iMeas bridge ∧
      (∀ x ∈ s.rau.entries,
        RingGains s t x.pinion { sampleRecord u x 0 false false with abandoned := true } x.counter) ∧
      RingGains s t k (sampleRecord u e 0 false false) counter ∧
      (∀ j, j ≠ k → (∀ x ∈ s.rau.entries, x.pinion ≠ j) → RingStays s t j) ∧
      ∀ j, t.lanes.get j =
        if j = lane then
          { (s.lanes.get j).stopped s with
            selection := .none
            receiver := requestFrame .sample (samplePayload iMeas n counter bridge demand)
            holder := ⟨0x10, .ok, .ready, [0, 0, 0, 0, 0, 0, if e.demandIgnored then 0x04 else 0]⟩ }
        else (s.lanes.get j).stopped s

/-- A SAMPLE whose own arrival trips the drive: the first report is the first cause, the rest are later causes (1.3
(R10, R13); 1.4 (R14, R15, R16, R17); 5.1 (R80); 5.2 (R81); 5.3 (R82, R83); 5.4 (R87, R89); 4.5 (R77); 8.3 (R140,
R142)). The model's own: the receiver is filled at the end of a selection and kept (log entry 14). -/
def Obligations.SampleTripsTheDrive : Prop :=
  ∀ (s : State) (lane : Lane) (k : Pinion) (iMeas n : Word16) (counter bridge : Byte) (demand : Option Word16)
    (cause : Cause) (value limit : Nat) (rest : List (Cause × Nat × Nat)),
    RauLaw s → Takes s lane .sample → (s.lanes.get lane).role = pinionRole k → s.rc.drive ≠ .tripped →
    (firstReports s k iMeas bridge = (cause, value, limit) :: rest ∨
      (imbalanceReports s k iMeas bridge ∧
        (cause, value, limit) = (Cause.imbalance, levelAfter s k iMeas, s.dwu.watch.imbalance) ∧ rest = [])) →
    ∃ (t u : State) (e : Entry),
      exec (.sample lane iMeas n counter bridge demand) s = .next t ∧
      e = ⟨k, iMeas, n, counter, false, false, s.rc.drive⟩ ∧
      u = { s with rc := heardBy s k iMeas n bridge, dwu := t.dwu } ∧ Watched s t k iMeas bridge ∧
      TripEntered u t cause value limit (some e) (rest.map (·.1)) ∧
      ∀ j, t.lanes.get j =
        if j = lane then
          { (s.lanes.get j).tripped s t.trc.current with
            selection := .none
            receiver := requestFrame .sample (samplePayload iMeas n counter bridge demand)
            holder := ⟨0x10, .ok, .tripped,
              [0, 0, 0, 0, 0, 0, if demand ≠ none ∧ k ≠ s.slu.lead then 0x44 else 0x40]⟩ }
        else (s.lanes.get j).tripped s t.trc.current

/-- The completion of a computation follows the seven steps and starts the waiting one (4.3 (R65, R66, R67, R68,
R69); 4.4 (R70, R72, R73, R74); 4.2 (R61); 8.1 (R133, R134, R135); 8.3 (R143, R144); 2.4 (R35)). The model's own: an
event that cannot happen in its state changes nothing (log entry 4). -/
def Obligations.ComputationCompletionByItsSteps : Prop :=
  ∀ s : State, RegulatorLaw s → (s.rau.inFlight = none → exec .computationCompletion s = .next s) ∧
    ∀ c, s.rau.inFlight = some c → ∃ (t : State) (acc v : Int) (sat : Sat) (crg : Regulators) (f : LaneState → Byte) (r : Reply),
      Computed c acc v sat ∧ exec .computationCompletion s = .next t ∧
      crg = { s.crg with acc := s.crg.acc.set c.entry.pinion acc, sat := s.crg.sat.set c.entry.pinion sat } ∧
      t = { s with lanes := t.lanes, crg := t.crg, rau := t.rau, trc := t.trc } ∧
      (s.rau.waiting = [] → t.crg = crg ∧ t.rau = ⟨none, []⟩) ∧
      (∀ e rest, s.rau.waiting = e :: rest → ∃ d, Starts s.slu crg t.crg e d ∧ t.rau = ⟨some d, rest⟩) ∧
      Written s t c.entry.pinion
        (sampleRecord s c.entry v (decide (sat = .high)) (decide (sat = .low))) c.entry.counter ∧
      CloseBit s c.entry.pinion f ∧
      SampleReply s c.entry.pinion v c.entry.demandIgnored (decide (sat = .high)) (decide (sat = .low)) c.newGains false r ∧
      ∀ j, t.lanes.get j =
        { s.lanes.get j with
          notices := (s.lanes.get j).notices ||| f (s.lanes.get j)
          holder := if (s.lanes.get j).role = pinionRole c.entry.pinion then r else (s.lanes.get j).holder }

/-- Every step keeps the limit chain in order and the overload sums below Q outside TRIPPED (3.1 (R38, R39, R40,
R41, R42); 3.2 (R43, R45); 3.3 (R48); 5.3 (R83, R84, R85); 1.5 (R20)). -/
def Obligations.LimitAndOverloadLawsKept : Prop :=
  ∀ s t : State, LimitLaw s → OverloadLaw s → step s = .next t → LimitLaw t ∧ OverloadLaw t

/-- Every step keeps the accumulators in bounds, regulation at rest outside RUN, INCH and STOPPING, and the RAU in
order (4.1 (R57, R58); 4.2 (R63); 4.4 (R70, R71); 4.5 (R77); 2.3 (R32); 10.1 (R158); 10.3 (R162)). -/
def Obligations.RegulatorAndRauLawsKept : Prop :=
  ∀ s t : State, RegulatorLaw s → RauLaw s → step s = .next t → RegulatorLaw t ∧ RauLaw t

/-- Every step keeps the trip table, the snapshots and the cursors in order (8.3 (R138, R139, R140, R143, R144); 8.1
(R133, R134); 9.2 (R151, R152); 9.3 (R154); 9.4 (R155)). -/
def Obligations.RecordLawsKept : Prop :=
  ∀ s t : State, TableLaw s → SnapshotLaw s → CursorLaw s → step s = .next t →
    TableLaw t ∧ SnapshotLaw t ∧ CursorLaw t

/-- Every step keeps the channel table in its ranges, and DANGER only in TRIPPED (7.3 (R120, R121); 7.4 (R122,
R124); 7.5 (R125, R126, R127); 7.2 (R119); 1.5 (R20)). -/
def Obligations.VibrationAndDangerLawsKept : Prop :=
  ∀ s t : State, VibrationLaw s → DangerLaw s → step s = .next t → VibrationLaw t ∧ DangerLaw t

/-- Every step keeps the node table in its ranges and a running discovery in order, and the search within 64 rounds
(6.3 (R101, R102, R104); 6.4 (R106); 6.5 (R108, R109, R110, R111); 6.6 (R114)). The model's own: a round in progress
is its open windows, and none overtakes another (log entry 16); search rounds are counted by their polls (log entry
18). -/
def Obligations.ChainLawsKept : Prop :=
  ∀ s t : State, ChainLaw s → step s = .next t →
    ChainLaw t ∧
      (SearchLaw s → (∀ rest, s.pending = .roundStart :: rest → s.scc.round = none) → SearchLaw t)

/-- Outside RUN, INCH and STOPPING both limits are 0 (R41). -/
def Obligations.LimitsAreZeroOutsideRegulation : Prop :=
  (∀ k, State.reset.slu.limit.get k = 0) ∧
    (∀ s t : State, LimitLaw s → OverloadLaw s → RegulatorLaw s → RauLaw s → step s = .next t → ¬InRegulation t →
      ∀ k, t.slu.target.get k = 0 ∧ t.slu.limit.get k = 0 ∧ t.slu.raw.get k = 0 ∧ t.slu.iref.get k = 0 ∧
        t.slu.limited.get k = false) ∧
    ∀ s : State, LimitLaw s → ¬InRegulation s →
      ∃ t, exec .rampTick s = .next t ∧ t.slu = s.slu ∧ t.lanes = s.lanes

/-- Every reset puts the drive watch into its reset state, which holds to the end of the initialisation (R94). -/
def Obligations.DriveWatchAfterEveryReset : Prop :=
  ∀ w : DriveWatch, w = ⟨.both 0, 0, 0, ⟨29491, 2000000, 2000, 1638, 6, 32, 328, 164, 120, 3⟩⟩ →
    (∀ (s : State) (straps : Straps) (pinLow : Bool), ∃ t, exec (.powerOn straps pinLow) s = .next t ∧ t.dwu = w) ∧
    (∀ s : State, s.tbu.phase ≠ .held → ∃ t, exec .resetPin s = .next t ∧ t.dwu = w) ∧
    (∀ (s : State) (lane : Lane) (straps : Straps), Takes s lane .reset → (s.rc.drive = .halt ∨ s.rc.drive = .tripped) →
      ∃ t, exec (.reset lane straps) s = .next t ∧ t.dwu = w) ∧
    State.reset.dwu = w ∧
    ∀ (c : Instr) (s t : State), RauLaw s → s.tbu.phase ≠ .working → s.dwu = w → exec c s = .next t → t.dwu = w

/-- The laws hold right after power-on (3.7 (R55); 4.6 (R78); 5.6 (R94); 7.8 (R132); 8.5 (R148); 10.3 (R164); 6.7
(R115)). The model's own: the straps are operands, and State.reset names them (log entry 6); State.reset is the
start of the initialisation (log entry 7). -/
def Obligations.LawsAtReset : Prop :=
  (LimitLaw State.reset ∧ OverloadLaw State.reset) ∧ (RegulatorLaw State.reset ∧ RauLaw State.reset) ∧
    (TableLaw State.reset ∧ SnapshotLaw State.reset ∧ CursorLaw State.reset) ∧
    (VibrationLaw State.reset ∧ DangerLaw State.reset) ∧ ChainLaw State.reset ∧ SearchLaw State.reset

/-- The frame of every request decodes to that request, whatever follows the CRC byte (10.2 (Table 2, Table 4,
R159); 10.3 (R161)). The model's own: the straps are operands, and State.reset names them (log entry 6). -/
def Obligations.FrameRoundTrip : Prop :=
  ∀ (i : Instr) (lane : Lane) (straps : Straps) (frame after : List Byte), requestLane i = some lane →
    encodeFrame i = some frame → decodeFrame lane (requestStraps straps i) (frame ++ after) = .ok i

end
end

