-- ==== Sys2Proof/Laws/Containers.lean ====
section
/-! SUPPORT. The laws of the fixed-size tables `Pair`, `Four` and `Eight`: read after write, read after map, and
equality entry by entry. -/

namespace Sys2Proof

/-! ### Pair -/

@[simp] theorem Pinion.other_other (k : Pinion) : k.other.other = k := by cases k <;> rfl
@[simp] theorem Pinion.other_ne (k : Pinion) : k.other ≠ k := by cases k <;> decide
theorem Pinion.eq_or_other (k j : Pinion) : j = k ∨ j = k.other := by cases k <;> cases j <;> simp [Pinion.other]

@[ext] theorem Pair.ext_get {α : Type} {t u : Pair α} (h : ∀ k, t.get k = u.get k) : t = u := by
  cases t; cases u
  exact congr (congrArg Pair.mk (h .a)) (h .b)

@[simp] theorem Pair.get_a {α : Type} (t : Pair α) : t.get .a = t.a := rfl
@[simp] theorem Pair.get_b {α : Type} (t : Pair α) : t.get .b = t.b := rfl
@[simp] theorem Pair.get_mk_a {α : Type} (x y : α) : (Pair.mk x y).a = x := rfl
theorem Pair.get_set {α : Type} (t : Pair α) (k j : Pinion) (x : α) :
    (t.set k x).get j = if j = k then x else t.get j := by cases k <;> cases j <;> rfl
@[simp] theorem Pair.get_set_self {α : Type} (t : Pair α) (k : Pinion) (x : α) : (t.set k x).get k = x := by
  simp [Pair.get_set]
theorem Pair.get_set_ne {α : Type} (t : Pair α) {k j : Pinion} (x : α) (h : j ≠ k) :
    (t.set k x).get j = t.get j := by simp [Pair.get_set, h]
@[simp] theorem Pair.get_set_other {α : Type} (t : Pair α) (k : Pinion) (x : α) :
    (t.set k x).get k.other = t.get k.other := by cases k <;> rfl
@[simp] theorem Pair.set_a_a {α : Type} (t : Pair α) (x : α) : (t.set .a x).a = x := rfl
@[simp] theorem Pair.set_a_b {α : Type} (t : Pair α) (x : α) : (t.set .a x).b = t.b := rfl
@[simp] theorem Pair.set_b_a {α : Type} (t : Pair α) (x : α) : (t.set .b x).a = t.a := rfl
@[simp] theorem Pair.set_b_b {α : Type} (t : Pair α) (x : α) : (t.set .b x).b = x := rfl
@[simp] theorem Pair.get_both {α : Type} (x : α) (k : Pinion) : (Pair.both x).get k = x := by cases k <;> rfl
@[simp] theorem Pair.both_a {α : Type} (x : α) : (Pair.both x).a = x := rfl
@[simp] theorem Pair.both_b {α : Type} (x : α) : (Pair.both x).b = x := rfl
@[simp] theorem Pair.get_map {α β : Type} (f : α → β) (t : Pair α) (k : Pinion) : (t.map f).get k = f (t.get k) := by
  cases k <;> rfl
@[simp] theorem Pair.map_a {α β : Type} (f : α → β) (t : Pair α) : (t.map f).a = f t.a := rfl
@[simp] theorem Pair.map_b {α β : Type} (f : α → β) (t : Pair α) : (t.map f).b = f t.b := rfl
@[simp] theorem Pair.set_get {α : Type} (t : Pair α) (k : Pinion) : t.set k (t.get k) = t := by cases k <;> rfl
@[simp] theorem Pair.set_both {α : Type} (k : Pinion) (x : α) : (Pair.both x).set k x = Pair.both x := by cases k <;> rfl

/-! ### Four -/

@[ext] theorem Four.ext_get {α : Type} {t u : Four α} (h : ∀ i, t.get i = u.get i) : t = u := by
  obtain ⟨a, b, c, d⟩ := t
  obtain ⟨a', b', c', d'⟩ := u
  have h0 : a = a' := h 0
  have h1 : b = b' := h 1
  have h2 : c = c' := h 2
  have h3 : d = d' := h 3
  subst h0 h1 h2 h3
  rfl

theorem Four.get_set {α : Type} (t : Four α) (i j : Fin 4) (x : α) :
    (t.set i x).get j = if j = i then x else t.get j := by
  fin_cases i <;> fin_cases j <;> rfl
@[simp] theorem Four.get_set_self {α : Type} (t : Four α) (i : Fin 4) (x : α) : (t.set i x).get i = x := by
  simp [Four.get_set]
theorem Four.get_set_ne {α : Type} (t : Four α) {i j : Fin 4} (x : α) (h : j ≠ i) : (t.set i x).get j = t.get j := by
  simp [Four.get_set, h]
@[simp] theorem Four.get_map {α β : Type} (f : Fin 4 → α → β) (t : Four α) (i : Fin 4) :
    (t.map f).get i = f i (t.get i) := by fin_cases i <;> rfl
@[simp] theorem Four.set_get {α : Type} (t : Four α) (i : Fin 4) : t.set i (t.get i) = t :=
  Four.ext_get fun j => by rw [Four.get_set]; split <;> simp_all
theorem Four.any_eq_true {α : Type} (p : α → Bool) (t : Four α) : t.any p = true ↔ ∃ i, p (t.get i) = true := by
  simp only [Four.any, Bool.or_eq_true]
  constructor
  · rintro (((h | h) | h) | h)
    exacts [⟨0, h⟩, ⟨1, h⟩, ⟨2, h⟩, ⟨3, h⟩]
  · rintro ⟨i, h⟩
    fin_cases i
    exacts [.inl (.inl (.inl h)), .inl (.inl (.inr h)), .inl (.inr h), .inr h]

/-! ### Eight -/

@[ext] theorem Eight.ext_get {α : Type} {t u : Eight α} (h : ∀ i, t.get i = u.get i) : t = u := by
  obtain ⟨a, b, c, d, e, f, g, k⟩ := t
  obtain ⟨a', b', c', d', e', f', g', k'⟩ := u
  have h0 : a = a' := h 0
  have h1 : b = b' := h 1
  have h2 : c = c' := h 2
  have h3 : d = d' := h 3
  have h4 : e = e' := h 4
  have h5 : f = f' := h 5
  have h6 : g = g' := h 6
  have h7 : k = k' := h 7
  subst h0 h1 h2 h3 h4 h5 h6 h7
  rfl

theorem Eight.get_set {α : Type} (t : Eight α) (i j : Fin 8) (x : α) :
    (t.set i x).get j = if j = i then x else t.get j := by
  fin_cases i <;> fin_cases j <;> rfl
@[simp] theorem Eight.get_set_self {α : Type} (t : Eight α) (i : Fin 8) (x : α) : (t.set i x).get i = x := by
  simp [Eight.get_set]
theorem Eight.get_set_ne {α : Type} (t : Eight α) {i j : Fin 8} (x : α) (h : j ≠ i) :
    (t.set i x).get j = t.get j := by
  simp [Eight.get_set, h]
@[simp] theorem Eight.get_map {α β : Type} (f : Fin 8 → α → β) (t : Eight α) (i : Fin 8) :
    (t.map f).get i = f i (t.get i) := by fin_cases i <;> rfl
@[simp] theorem Eight.get_const {α : Type} (x : α) (i : Fin 8) : (Eight.const x).get i = x := by fin_cases i <;> rfl
@[simp] theorem Eight.set_set {α : Type} (t : Eight α) (i : Fin 8) (x y : α) : (t.set i x).set i y = t.set i y := by
  fin_cases i <;> rfl
@[simp] theorem Eight.set_get {α : Type} (t : Eight α) (i : Fin 8) : t.set i (t.get i) = t :=
  Eight.ext_get fun j => by rw [Eight.get_set]; split <;> simp_all
@[simp] theorem mem_eightIndexes (i : Fin 8) : i ∈ eightIndexes := by fin_cases i <;> decide

end Sys2Proof
end

