-- ==== Sys2Proof/Laws/State.lean ====
section
/-! SUPPORT. One lemma per field of `State` and per update of a block: what a read of the field gives after it. -/

namespace Sys2Proof.Machine

variable (s : State)

/-! ### updLanes -/

@[simp] theorem State.updLanes_pending (f : Four LaneState → Four LaneState) : (s.updLanes f).pending = s.pending := rfl
@[simp] theorem State.updLanes_openReads (f : Four LaneState → Four LaneState) : (s.updLanes f).openReads = s.openReads := rfl
@[simp] theorem State.updLanes_lanes (f : Four LaneState → Four LaneState) : (s.updLanes f).lanes = f s.lanes := rfl
@[simp] theorem State.updLanes_capture (f : Four LaneState → Four LaneState) : (s.updLanes f).capture = s.capture := rfl
@[simp] theorem State.updLanes_rc (f : Four LaneState → Four LaneState) : (s.updLanes f).rc = s.rc := rfl
@[simp] theorem State.updLanes_slu (f : Four LaneState → Four LaneState) : (s.updLanes f).slu = s.slu := rfl
@[simp] theorem State.updLanes_crg (f : Four LaneState → Four LaneState) : (s.updLanes f).crg = s.crg := rfl
@[simp] theorem State.updLanes_rau (f : Four LaneState → Four LaneState) : (s.updLanes f).rau = s.rau := rfl
@[simp] theorem State.updLanes_dwu (f : Four LaneState → Four LaneState) : (s.updLanes f).dwu = s.dwu := rfl
@[simp] theorem State.updLanes_scc (f : Four LaneState → Four LaneState) : (s.updLanes f).scc = s.scc := rfl
@[simp] theorem State.updLanes_vlu (f : Four LaneState → Four LaneState) : (s.updLanes f).vlu = s.vlu := rfl
@[simp] theorem State.updLanes_trc (f : Four LaneState → Four LaneState) : (s.updLanes f).trc = s.trc := rfl
@[simp] theorem State.updLanes_tbu (f : Four LaneState → Four LaneState) : (s.updLanes f).tbu = s.tbu := rfl

/-! ### updRc -/

@[simp] theorem State.updRc_pending (f : RunControl → RunControl) : (s.updRc f).pending = s.pending := rfl
@[simp] theorem State.updRc_openReads (f : RunControl → RunControl) : (s.updRc f).openReads = s.openReads := rfl
@[simp] theorem State.updRc_lanes (f : RunControl → RunControl) : (s.updRc f).lanes = s.lanes := rfl
@[simp] theorem State.updRc_capture (f : RunControl → RunControl) : (s.updRc f).capture = s.capture := rfl
@[simp] theorem State.updRc_rc (f : RunControl → RunControl) : (s.updRc f).rc = f s.rc := rfl
@[simp] theorem State.updRc_slu (f : RunControl → RunControl) : (s.updRc f).slu = s.slu := rfl
@[simp] theorem State.updRc_crg (f : RunControl → RunControl) : (s.updRc f).crg = s.crg := rfl
@[simp] theorem State.updRc_rau (f : RunControl → RunControl) : (s.updRc f).rau = s.rau := rfl
@[simp] theorem State.updRc_dwu (f : RunControl → RunControl) : (s.updRc f).dwu = s.dwu := rfl
@[simp] theorem State.updRc_scc (f : RunControl → RunControl) : (s.updRc f).scc = s.scc := rfl
@[simp] theorem State.updRc_vlu (f : RunControl → RunControl) : (s.updRc f).vlu = s.vlu := rfl
@[simp] theorem State.updRc_trc (f : RunControl → RunControl) : (s.updRc f).trc = s.trc := rfl
@[simp] theorem State.updRc_tbu (f : RunControl → RunControl) : (s.updRc f).tbu = s.tbu := rfl

/-! ### updSlu -/

@[simp] theorem State.updSlu_pending (f : ShareLimit → ShareLimit) : (s.updSlu f).pending = s.pending := rfl
@[simp] theorem State.updSlu_openReads (f : ShareLimit → ShareLimit) : (s.updSlu f).openReads = s.openReads := rfl
@[simp] theorem State.updSlu_lanes (f : ShareLimit → ShareLimit) : (s.updSlu f).lanes = s.lanes := rfl
@[simp] theorem State.updSlu_capture (f : ShareLimit → ShareLimit) : (s.updSlu f).capture = s.capture := rfl
@[simp] theorem State.updSlu_rc (f : ShareLimit → ShareLimit) : (s.updSlu f).rc = s.rc := rfl
@[simp] theorem State.updSlu_slu (f : ShareLimit → ShareLimit) : (s.updSlu f).slu = f s.slu := rfl
@[simp] theorem State.updSlu_crg (f : ShareLimit → ShareLimit) : (s.updSlu f).crg = s.crg := rfl
@[simp] theorem State.updSlu_rau (f : ShareLimit → ShareLimit) : (s.updSlu f).rau = s.rau := rfl
@[simp] theorem State.updSlu_dwu (f : ShareLimit → ShareLimit) : (s.updSlu f).dwu = s.dwu := rfl
@[simp] theorem State.updSlu_scc (f : ShareLimit → ShareLimit) : (s.updSlu f).scc = s.scc := rfl
@[simp] theorem State.updSlu_vlu (f : ShareLimit → ShareLimit) : (s.updSlu f).vlu = s.vlu := rfl
@[simp] theorem State.updSlu_trc (f : ShareLimit → ShareLimit) : (s.updSlu f).trc = s.trc := rfl
@[simp] theorem State.updSlu_tbu (f : ShareLimit → ShareLimit) : (s.updSlu f).tbu = s.tbu := rfl

/-! ### updCrg -/

@[simp] theorem State.updCrg_pending (f : Regulators → Regulators) : (s.updCrg f).pending = s.pending := rfl
@[simp] theorem State.updCrg_openReads (f : Regulators → Regulators) : (s.updCrg f).openReads = s.openReads := rfl
@[simp] theorem State.updCrg_lanes (f : Regulators → Regulators) : (s.updCrg f).lanes = s.lanes := rfl
@[simp] theorem State.updCrg_capture (f : Regulators → Regulators) : (s.updCrg f).capture = s.capture := rfl
@[simp] theorem State.updCrg_rc (f : Regulators → Regulators) : (s.updCrg f).rc = s.rc := rfl
@[simp] theorem State.updCrg_slu (f : Regulators → Regulators) : (s.updCrg f).slu = s.slu := rfl
@[simp] theorem State.updCrg_crg (f : Regulators → Regulators) : (s.updCrg f).crg = f s.crg := rfl
@[simp] theorem State.updCrg_rau (f : Regulators → Regulators) : (s.updCrg f).rau = s.rau := rfl
@[simp] theorem State.updCrg_dwu (f : Regulators → Regulators) : (s.updCrg f).dwu = s.dwu := rfl
@[simp] theorem State.updCrg_scc (f : Regulators → Regulators) : (s.updCrg f).scc = s.scc := rfl
@[simp] theorem State.updCrg_vlu (f : Regulators → Regulators) : (s.updCrg f).vlu = s.vlu := rfl
@[simp] theorem State.updCrg_trc (f : Regulators → Regulators) : (s.updCrg f).trc = s.trc := rfl
@[simp] theorem State.updCrg_tbu (f : Regulators → Regulators) : (s.updCrg f).tbu = s.tbu := rfl

/-! ### updRau -/

@[simp] theorem State.updRau_pending (f : Rau → Rau) : (s.updRau f).pending = s.pending := rfl
@[simp] theorem State.updRau_openReads (f : Rau → Rau) : (s.updRau f).openReads = s.openReads := rfl
@[simp] theorem State.updRau_lanes (f : Rau → Rau) : (s.updRau f).lanes = s.lanes := rfl
@[simp] theorem State.updRau_capture (f : Rau → Rau) : (s.updRau f).capture = s.capture := rfl
@[simp] theorem State.updRau_rc (f : Rau → Rau) : (s.updRau f).rc = s.rc := rfl
@[simp] theorem State.updRau_slu (f : Rau → Rau) : (s.updRau f).slu = s.slu := rfl
@[simp] theorem State.updRau_crg (f : Rau → Rau) : (s.updRau f).crg = s.crg := rfl
@[simp] theorem State.updRau_rau (f : Rau → Rau) : (s.updRau f).rau = f s.rau := rfl
@[simp] theorem State.updRau_dwu (f : Rau → Rau) : (s.updRau f).dwu = s.dwu := rfl
@[simp] theorem State.updRau_scc (f : Rau → Rau) : (s.updRau f).scc = s.scc := rfl
@[simp] theorem State.updRau_vlu (f : Rau → Rau) : (s.updRau f).vlu = s.vlu := rfl
@[simp] theorem State.updRau_trc (f : Rau → Rau) : (s.updRau f).trc = s.trc := rfl
@[simp] theorem State.updRau_tbu (f : Rau → Rau) : (s.updRau f).tbu = s.tbu := rfl

/-! ### updDwu -/

@[simp] theorem State.updDwu_pending (f : DriveWatch → DriveWatch) : (s.updDwu f).pending = s.pending := rfl
@[simp] theorem State.updDwu_openReads (f : DriveWatch → DriveWatch) : (s.updDwu f).openReads = s.openReads := rfl
@[simp] theorem State.updDwu_lanes (f : DriveWatch → DriveWatch) : (s.updDwu f).lanes = s.lanes := rfl
@[simp] theorem State.updDwu_capture (f : DriveWatch → DriveWatch) : (s.updDwu f).capture = s.capture := rfl
@[simp] theorem State.updDwu_rc (f : DriveWatch → DriveWatch) : (s.updDwu f).rc = s.rc := rfl
@[simp] theorem State.updDwu_slu (f : DriveWatch → DriveWatch) : (s.updDwu f).slu = s.slu := rfl
@[simp] theorem State.updDwu_crg (f : DriveWatch → DriveWatch) : (s.updDwu f).crg = s.crg := rfl
@[simp] theorem State.updDwu_rau (f : DriveWatch → DriveWatch) : (s.updDwu f).rau = s.rau := rfl
@[simp] theorem State.updDwu_dwu (f : DriveWatch → DriveWatch) : (s.updDwu f).dwu = f s.dwu := rfl
@[simp] theorem State.updDwu_scc (f : DriveWatch → DriveWatch) : (s.updDwu f).scc = s.scc := rfl
@[simp] theorem State.updDwu_vlu (f : DriveWatch → DriveWatch) : (s.updDwu f).vlu = s.vlu := rfl
@[simp] theorem State.updDwu_trc (f : DriveWatch → DriveWatch) : (s.updDwu f).trc = s.trc := rfl
@[simp] theorem State.updDwu_tbu (f : DriveWatch → DriveWatch) : (s.updDwu f).tbu = s.tbu := rfl

/-! ### updScc -/

@[simp] theorem State.updScc_pending (f : SensorChain → SensorChain) : (s.updScc f).pending = s.pending := rfl
@[simp] theorem State.updScc_openReads (f : SensorChain → SensorChain) : (s.updScc f).openReads = s.openReads := rfl
@[simp] theorem State.updScc_lanes (f : SensorChain → SensorChain) : (s.updScc f).lanes = s.lanes := rfl
@[simp] theorem State.updScc_capture (f : SensorChain → SensorChain) : (s.updScc f).capture = s.capture := rfl
@[simp] theorem State.updScc_rc (f : SensorChain → SensorChain) : (s.updScc f).rc = s.rc := rfl
@[simp] theorem State.updScc_slu (f : SensorChain → SensorChain) : (s.updScc f).slu = s.slu := rfl
@[simp] theorem State.updScc_crg (f : SensorChain → SensorChain) : (s.updScc f).crg = s.crg := rfl
@[simp] theorem State.updScc_rau (f : SensorChain → SensorChain) : (s.updScc f).rau = s.rau := rfl
@[simp] theorem State.updScc_dwu (f : SensorChain → SensorChain) : (s.updScc f).dwu = s.dwu := rfl
@[simp] theorem State.updScc_scc (f : SensorChain → SensorChain) : (s.updScc f).scc = f s.scc := rfl
@[simp] theorem State.updScc_vlu (f : SensorChain → SensorChain) : (s.updScc f).vlu = s.vlu := rfl
@[simp] theorem State.updScc_trc (f : SensorChain → SensorChain) : (s.updScc f).trc = s.trc := rfl
@[simp] theorem State.updScc_tbu (f : SensorChain → SensorChain) : (s.updScc f).tbu = s.tbu := rfl

/-! ### updVlu -/

@[simp] theorem State.updVlu_pending (f : Vibration → Vibration) : (s.updVlu f).pending = s.pending := rfl
@[simp] theorem State.updVlu_openReads (f : Vibration → Vibration) : (s.updVlu f).openReads = s.openReads := rfl
@[simp] theorem State.updVlu_lanes (f : Vibration → Vibration) : (s.updVlu f).lanes = s.lanes := rfl
@[simp] theorem State.updVlu_capture (f : Vibration → Vibration) : (s.updVlu f).capture = s.capture := rfl
@[simp] theorem State.updVlu_rc (f : Vibration → Vibration) : (s.updVlu f).rc = s.rc := rfl
@[simp] theorem State.updVlu_slu (f : Vibration → Vibration) : (s.updVlu f).slu = s.slu := rfl
@[simp] theorem State.updVlu_crg (f : Vibration → Vibration) : (s.updVlu f).crg = s.crg := rfl
@[simp] theorem State.updVlu_rau (f : Vibration → Vibration) : (s.updVlu f).rau = s.rau := rfl
@[simp] theorem State.updVlu_dwu (f : Vibration → Vibration) : (s.updVlu f).dwu = s.dwu := rfl
@[simp] theorem State.updVlu_scc (f : Vibration → Vibration) : (s.updVlu f).scc = s.scc := rfl
@[simp] theorem State.updVlu_vlu (f : Vibration → Vibration) : (s.updVlu f).vlu = f s.vlu := rfl
@[simp] theorem State.updVlu_trc (f : Vibration → Vibration) : (s.updVlu f).trc = s.trc := rfl
@[simp] theorem State.updVlu_tbu (f : Vibration → Vibration) : (s.updVlu f).tbu = s.tbu := rfl

/-! ### updTrc -/

@[simp] theorem State.updTrc_pending (f : Recorder → Recorder) : (s.updTrc f).pending = s.pending := rfl
@[simp] theorem State.updTrc_openReads (f : Recorder → Recorder) : (s.updTrc f).openReads = s.openReads := rfl
@[simp] theorem State.updTrc_lanes (f : Recorder → Recorder) : (s.updTrc f).lanes = s.lanes := rfl
@[simp] theorem State.updTrc_capture (f : Recorder → Recorder) : (s.updTrc f).capture = s.capture := rfl
@[simp] theorem State.updTrc_rc (f : Recorder → Recorder) : (s.updTrc f).rc = s.rc := rfl
@[simp] theorem State.updTrc_slu (f : Recorder → Recorder) : (s.updTrc f).slu = s.slu := rfl
@[simp] theorem State.updTrc_crg (f : Recorder → Recorder) : (s.updTrc f).crg = s.crg := rfl
@[simp] theorem State.updTrc_rau (f : Recorder → Recorder) : (s.updTrc f).rau = s.rau := rfl
@[simp] theorem State.updTrc_dwu (f : Recorder → Recorder) : (s.updTrc f).dwu = s.dwu := rfl
@[simp] theorem State.updTrc_scc (f : Recorder → Recorder) : (s.updTrc f).scc = s.scc := rfl
@[simp] theorem State.updTrc_vlu (f : Recorder → Recorder) : (s.updTrc f).vlu = s.vlu := rfl
@[simp] theorem State.updTrc_trc (f : Recorder → Recorder) : (s.updTrc f).trc = f s.trc := rfl
@[simp] theorem State.updTrc_tbu (f : Recorder → Recorder) : (s.updTrc f).tbu = s.tbu := rfl

/-! ### updTbu -/

@[simp] theorem State.updTbu_pending (f : Timebase → Timebase) : (s.updTbu f).pending = s.pending := rfl
@[simp] theorem State.updTbu_openReads (f : Timebase → Timebase) : (s.updTbu f).openReads = s.openReads := rfl
@[simp] theorem State.updTbu_lanes (f : Timebase → Timebase) : (s.updTbu f).lanes = s.lanes := rfl
@[simp] theorem State.updTbu_capture (f : Timebase → Timebase) : (s.updTbu f).capture = s.capture := rfl
@[simp] theorem State.updTbu_rc (f : Timebase → Timebase) : (s.updTbu f).rc = s.rc := rfl
@[simp] theorem State.updTbu_slu (f : Timebase → Timebase) : (s.updTbu f).slu = s.slu := rfl
@[simp] theorem State.updTbu_crg (f : Timebase → Timebase) : (s.updTbu f).crg = s.crg := rfl
@[simp] theorem State.updTbu_rau (f : Timebase → Timebase) : (s.updTbu f).rau = s.rau := rfl
@[simp] theorem State.updTbu_dwu (f : Timebase → Timebase) : (s.updTbu f).dwu = s.dwu := rfl
@[simp] theorem State.updTbu_scc (f : Timebase → Timebase) : (s.updTbu f).scc = s.scc := rfl
@[simp] theorem State.updTbu_vlu (f : Timebase → Timebase) : (s.updTbu f).vlu = s.vlu := rfl
@[simp] theorem State.updTbu_trc (f : Timebase → Timebase) : (s.updTbu f).trc = s.trc := rfl
@[simp] theorem State.updTbu_tbu (f : Timebase → Timebase) : (s.updTbu f).tbu = f s.tbu := rfl

/-! ### setCapture -/

@[simp] theorem State.setCapture_pending (c : Option Capture) : (s.setCapture c).pending = s.pending := rfl
@[simp] theorem State.setCapture_openReads (c : Option Capture) : (s.setCapture c).openReads = s.openReads := rfl
@[simp] theorem State.setCapture_lanes (c : Option Capture) : (s.setCapture c).lanes = s.lanes := rfl
@[simp] theorem State.setCapture_capture (c : Option Capture) : (s.setCapture c).capture = c := rfl
@[simp] theorem State.setCapture_rc (c : Option Capture) : (s.setCapture c).rc = s.rc := rfl
@[simp] theorem State.setCapture_slu (c : Option Capture) : (s.setCapture c).slu = s.slu := rfl
@[simp] theorem State.setCapture_crg (c : Option Capture) : (s.setCapture c).crg = s.crg := rfl
@[simp] theorem State.setCapture_rau (c : Option Capture) : (s.setCapture c).rau = s.rau := rfl
@[simp] theorem State.setCapture_dwu (c : Option Capture) : (s.setCapture c).dwu = s.dwu := rfl
@[simp] theorem State.setCapture_scc (c : Option Capture) : (s.setCapture c).scc = s.scc := rfl
@[simp] theorem State.setCapture_vlu (c : Option Capture) : (s.setCapture c).vlu = s.vlu := rfl
@[simp] theorem State.setCapture_trc (c : Option Capture) : (s.setCapture c).trc = s.trc := rfl
@[simp] theorem State.setCapture_tbu (c : Option Capture) : (s.setCapture c).tbu = s.tbu := rfl

/-! ### nextOpenRead -/

@[simp] theorem State.nextOpenRead_pending : s.nextOpenRead.pending = s.pending := rfl
@[simp] theorem State.nextOpenRead_openReads : s.nextOpenRead.openReads = s.openReads + 1 := rfl
@[simp] theorem State.nextOpenRead_lanes : s.nextOpenRead.lanes = s.lanes := rfl
@[simp] theorem State.nextOpenRead_capture : s.nextOpenRead.capture = s.capture := rfl
@[simp] theorem State.nextOpenRead_rc : s.nextOpenRead.rc = s.rc := rfl
@[simp] theorem State.nextOpenRead_slu : s.nextOpenRead.slu = s.slu := rfl
@[simp] theorem State.nextOpenRead_crg : s.nextOpenRead.crg = s.crg := rfl
@[simp] theorem State.nextOpenRead_rau : s.nextOpenRead.rau = s.rau := rfl
@[simp] theorem State.nextOpenRead_dwu : s.nextOpenRead.dwu = s.dwu := rfl
@[simp] theorem State.nextOpenRead_scc : s.nextOpenRead.scc = s.scc := rfl
@[simp] theorem State.nextOpenRead_vlu : s.nextOpenRead.vlu = s.vlu := rfl
@[simp] theorem State.nextOpenRead_trc : s.nextOpenRead.trc = s.trc := rfl
@[simp] theorem State.nextOpenRead_tbu : s.nextOpenRead.tbu = s.tbu := rfl

/-- Two states are equal if they agree field by field. -/
theorem State.ext_fields {s t : State} (h0 : s.pending = t.pending) (h1 : s.openReads = t.openReads)
    (h2 : s.lanes = t.lanes) (h3 : s.capture = t.capture) (h4 : s.rc = t.rc) (h5 : s.slu = t.slu)
    (h6 : s.crg = t.crg) (h7 : s.rau = t.rau) (h8 : s.dwu = t.dwu) (h9 : s.scc = t.scc) (h10 : s.vlu = t.vlu)
    (h11 : s.trc = t.trc) (h12 : s.tbu = t.tbu) : s = t := by
  cases s; cases t; simp_all

end Sys2Proof.Machine
end

