-- ==== Sys2Proof/Laws/Ops.lean ====
section
/-! SUPPORT. Frames: what each operation over lanes and limits leaves as it was, field by field; the roles of the lanes are among it. -/

namespace Sys2Proof.Machine

variable (s : State)

@[simp] theorem LaneState.raise_role (l : LaneState) (k : Notice) : (l.raise k).role = l.role := rfl
@[simp] theorem LaneState.raise_conflict (l : LaneState) (k : Notice) : (l.raise k).conflict = l.conflict := rfl
@[simp] theorem State.updLane_get (lane j : Lane) (f : LaneState → LaneState) :
    (s.updLane lane f).lanes.get j = if j = lane then f (s.lanes.get j) else s.lanes.get j := by
  by_cases h : j = lane <;> simp [State.updLane, Four.get_set, h]
@[simp] theorem State.updLanesWhere_get (p : LaneState → Bool) (f : LaneState → LaneState) (j : Lane) :
    (s.updLanesWhere p f).lanes.get j = if p (s.lanes.get j) then f (s.lanes.get j) else s.lanes.get j := by
  simp [State.updLanesWhere]

/-! ### updLane -/

@[simp] theorem State.updLane_pending (lane : Lane) (f : LaneState → LaneState) : (s.updLane lane f).pending = s.pending := rfl
@[simp] theorem State.updLane_openReads (lane : Lane) (f : LaneState → LaneState) : (s.updLane lane f).openReads = s.openReads := rfl
@[simp] theorem State.updLane_capture (lane : Lane) (f : LaneState → LaneState) : (s.updLane lane f).capture = s.capture := rfl
@[simp] theorem State.updLane_rc (lane : Lane) (f : LaneState → LaneState) : (s.updLane lane f).rc = s.rc := rfl
@[simp] theorem State.updLane_slu (lane : Lane) (f : LaneState → LaneState) : (s.updLane lane f).slu = s.slu := rfl
@[simp] theorem State.updLane_crg (lane : Lane) (f : LaneState → LaneState) : (s.updLane lane f).crg = s.crg := rfl
@[simp] theorem State.updLane_rau (lane : Lane) (f : LaneState → LaneState) : (s.updLane lane f).rau = s.rau := rfl
@[simp] theorem State.updLane_dwu (lane : Lane) (f : LaneState → LaneState) : (s.updLane lane f).dwu = s.dwu := rfl
@[simp] theorem State.updLane_scc (lane : Lane) (f : LaneState → LaneState) : (s.updLane lane f).scc = s.scc := rfl
@[simp] theorem State.updLane_vlu (lane : Lane) (f : LaneState → LaneState) : (s.updLane lane f).vlu = s.vlu := rfl
@[simp] theorem State.updLane_trc (lane : Lane) (f : LaneState → LaneState) : (s.updLane lane f).trc = s.trc := rfl
@[simp] theorem State.updLane_tbu (lane : Lane) (f : LaneState → LaneState) : (s.updLane lane f).tbu = s.tbu := rfl

/-! ### updLanesWhere -/

@[simp] theorem State.updLanesWhere_pending (p : LaneState → Bool) (f : LaneState → LaneState) : (s.updLanesWhere p f).pending = s.pending := rfl
@[simp] theorem State.updLanesWhere_openReads (p : LaneState → Bool) (f : LaneState → LaneState) : (s.updLanesWhere p f).openReads = s.openReads := rfl
@[simp] theorem State.updLanesWhere_capture (p : LaneState → Bool) (f : LaneState → LaneState) : (s.updLanesWhere p f).capture = s.capture := rfl
@[simp] theorem State.updLanesWhere_rc (p : LaneState → Bool) (f : LaneState → LaneState) : (s.updLanesWhere p f).rc = s.rc := rfl
@[simp] theorem State.updLanesWhere_slu (p : LaneState → Bool) (f : LaneState → LaneState) : (s.updLanesWhere p f).slu = s.slu := rfl
@[simp] theorem State.updLanesWhere_crg (p : LaneState → Bool) (f : LaneState → LaneState) : (s.updLanesWhere p f).crg = s.crg := rfl
@[simp] theorem State.updLanesWhere_rau (p : LaneState → Bool) (f : LaneState → LaneState) : (s.updLanesWhere p f).rau = s.rau := rfl
@[simp] theorem State.updLanesWhere_dwu (p : LaneState → Bool) (f : LaneState → LaneState) : (s.updLanesWhere p f).dwu = s.dwu := rfl
@[simp] theorem State.updLanesWhere_scc (p : LaneState → Bool) (f : LaneState → LaneState) : (s.updLanesWhere p f).scc = s.scc := rfl
@[simp] theorem State.updLanesWhere_vlu (p : LaneState → Bool) (f : LaneState → LaneState) : (s.updLanesWhere p f).vlu = s.vlu := rfl
@[simp] theorem State.updLanesWhere_trc (p : LaneState → Bool) (f : LaneState → LaneState) : (s.updLanesWhere p f).trc = s.trc := rfl
@[simp] theorem State.updLanesWhere_tbu (p : LaneState → Bool) (f : LaneState → LaneState) : (s.updLanesWhere p f).tbu = s.tbu := rfl

/-! ### raiseAll -/

@[simp] theorem State.raiseAll_pending (k : Notice) : (s.raiseAll k).pending = s.pending := rfl
@[simp] theorem State.raiseAll_openReads (k : Notice) : (s.raiseAll k).openReads = s.openReads := rfl
@[simp] theorem State.raiseAll_capture (k : Notice) : (s.raiseAll k).capture = s.capture := rfl
@[simp] theorem State.raiseAll_rc (k : Notice) : (s.raiseAll k).rc = s.rc := rfl
@[simp] theorem State.raiseAll_slu (k : Notice) : (s.raiseAll k).slu = s.slu := rfl
@[simp] theorem State.raiseAll_crg (k : Notice) : (s.raiseAll k).crg = s.crg := rfl
@[simp] theorem State.raiseAll_rau (k : Notice) : (s.raiseAll k).rau = s.rau := rfl
@[simp] theorem State.raiseAll_dwu (k : Notice) : (s.raiseAll k).dwu = s.dwu := rfl
@[simp] theorem State.raiseAll_scc (k : Notice) : (s.raiseAll k).scc = s.scc := rfl
@[simp] theorem State.raiseAll_vlu (k : Notice) : (s.raiseAll k).vlu = s.vlu := rfl
@[simp] theorem State.raiseAll_trc (k : Notice) : (s.raiseAll k).trc = s.trc := rfl
@[simp] theorem State.raiseAll_tbu (k : Notice) : (s.raiseAll k).tbu = s.tbu := rfl
@[simp] theorem State.raiseAll_role (k : Notice) (j : Lane) :
    ((s.raiseAll k).lanes.get j).role = (s.lanes.get j).role := by
  simp [State.raiseAll]

/-! ### raiseWatchers -/

@[simp] theorem State.raiseWatchers_pending (k : Notice) : (s.raiseWatchers k).pending = s.pending := rfl
@[simp] theorem State.raiseWatchers_openReads (k : Notice) : (s.raiseWatchers k).openReads = s.openReads := rfl
@[simp] theorem State.raiseWatchers_capture (k : Notice) : (s.raiseWatchers k).capture = s.capture := rfl
@[simp] theorem State.raiseWatchers_rc (k : Notice) : (s.raiseWatchers k).rc = s.rc := rfl
@[simp] theorem State.raiseWatchers_slu (k : Notice) : (s.raiseWatchers k).slu = s.slu := rfl
@[simp] theorem State.raiseWatchers_crg (k : Notice) : (s.raiseWatchers k).crg = s.crg := rfl
@[simp] theorem State.raiseWatchers_rau (k : Notice) : (s.raiseWatchers k).rau = s.rau := rfl
@[simp] theorem State.raiseWatchers_dwu (k : Notice) : (s.raiseWatchers k).dwu = s.dwu := rfl
@[simp] theorem State.raiseWatchers_scc (k : Notice) : (s.raiseWatchers k).scc = s.scc := rfl
@[simp] theorem State.raiseWatchers_vlu (k : Notice) : (s.raiseWatchers k).vlu = s.vlu := rfl
@[simp] theorem State.raiseWatchers_trc (k : Notice) : (s.raiseWatchers k).trc = s.trc := rfl
@[simp] theorem State.raiseWatchers_tbu (k : Notice) : (s.raiseWatchers k).tbu = s.tbu := rfl
@[simp] theorem State.raiseWatchers_role (k : Notice) (j : Lane) :
    ((s.raiseWatchers k).lanes.get j).role = (s.lanes.get j).role := by
  simp only [State.raiseWatchers, State.updLanesWhere_get]; split <;> simp

/-! ### raisePlant -/

@[simp] theorem State.raisePlant_pending (k : Notice) : (s.raisePlant k).pending = s.pending := rfl
@[simp] theorem State.raisePlant_openReads (k : Notice) : (s.raisePlant k).openReads = s.openReads := rfl
@[simp] theorem State.raisePlant_capture (k : Notice) : (s.raisePlant k).capture = s.capture := rfl
@[simp] theorem State.raisePlant_rc (k : Notice) : (s.raisePlant k).rc = s.rc := rfl
@[simp] theorem State.raisePlant_slu (k : Notice) : (s.raisePlant k).slu = s.slu := rfl
@[simp] theorem State.raisePlant_crg (k : Notice) : (s.raisePlant k).crg = s.crg := rfl
@[simp] theorem State.raisePlant_rau (k : Notice) : (s.raisePlant k).rau = s.rau := rfl
@[simp] theorem State.raisePlant_dwu (k : Notice) : (s.raisePlant k).dwu = s.dwu := rfl
@[simp] theorem State.raisePlant_scc (k : Notice) : (s.raisePlant k).scc = s.scc := rfl
@[simp] theorem State.raisePlant_vlu (k : Notice) : (s.raisePlant k).vlu = s.vlu := rfl
@[simp] theorem State.raisePlant_trc (k : Notice) : (s.raisePlant k).trc = s.trc := rfl
@[simp] theorem State.raisePlant_tbu (k : Notice) : (s.raisePlant k).tbu = s.tbu := rfl
@[simp] theorem State.raisePlant_role (k : Notice) (j : Lane) :
    ((s.raisePlant k).lanes.get j).role = (s.lanes.get j).role := by
  simp only [State.raisePlant, State.updLanesWhere_get]; split <;> simp

/-! ### raisePinion -/

@[simp] theorem State.raisePinion_pending (p : Pinion) (k : Notice) : (s.raisePinion p k).pending = s.pending := rfl
@[simp] theorem State.raisePinion_openReads (p : Pinion) (k : Notice) : (s.raisePinion p k).openReads = s.openReads := rfl
@[simp] theorem State.raisePinion_capture (p : Pinion) (k : Notice) : (s.raisePinion p k).capture = s.capture := rfl
@[simp] theorem State.raisePinion_rc (p : Pinion) (k : Notice) : (s.raisePinion p k).rc = s.rc := rfl
@[simp] theorem State.raisePinion_slu (p : Pinion) (k : Notice) : (s.raisePinion p k).slu = s.slu := rfl
@[simp] theorem State.raisePinion_crg (p : Pinion) (k : Notice) : (s.raisePinion p k).crg = s.crg := rfl
@[simp] theorem State.raisePinion_rau (p : Pinion) (k : Notice) : (s.raisePinion p k).rau = s.rau := rfl
@[simp] theorem State.raisePinion_dwu (p : Pinion) (k : Notice) : (s.raisePinion p k).dwu = s.dwu := rfl
@[simp] theorem State.raisePinion_scc (p : Pinion) (k : Notice) : (s.raisePinion p k).scc = s.scc := rfl
@[simp] theorem State.raisePinion_vlu (p : Pinion) (k : Notice) : (s.raisePinion p k).vlu = s.vlu := rfl
@[simp] theorem State.raisePinion_trc (p : Pinion) (k : Notice) : (s.raisePinion p k).trc = s.trc := rfl
@[simp] theorem State.raisePinion_tbu (p : Pinion) (k : Notice) : (s.raisePinion p k).tbu = s.tbu := rfl
@[simp] theorem State.raisePinion_role (p : Pinion) (k : Notice) (j : Lane) :
    ((s.raisePinion p k).lanes.get j).role = (s.lanes.get j).role := by
  simp only [State.raisePinion, State.updLanesWhere_get]; split <;> simp

/-! ### answer -/

@[simp] theorem State.answer_pending (lane : Lane) (kind : RequestKind) (status : Status) (payload : List Byte) : (s.answer lane kind status payload).pending = s.pending := rfl
@[simp] theorem State.answer_openReads (lane : Lane) (kind : RequestKind) (status : Status) (payload : List Byte) : (s.answer lane kind status payload).openReads = s.openReads := rfl
@[simp] theorem State.answer_capture (lane : Lane) (kind : RequestKind) (status : Status) (payload : List Byte) : (s.answer lane kind status payload).capture = s.capture := rfl
@[simp] theorem State.answer_rc (lane : Lane) (kind : RequestKind) (status : Status) (payload : List Byte) : (s.answer lane kind status payload).rc = s.rc := rfl
@[simp] theorem State.answer_slu (lane : Lane) (kind : RequestKind) (status : Status) (payload : List Byte) : (s.answer lane kind status payload).slu = s.slu := rfl
@[simp] theorem State.answer_crg (lane : Lane) (kind : RequestKind) (status : Status) (payload : List Byte) : (s.answer lane kind status payload).crg = s.crg := rfl
@[simp] theorem State.answer_rau (lane : Lane) (kind : RequestKind) (status : Status) (payload : List Byte) : (s.answer lane kind status payload).rau = s.rau := rfl
@[simp] theorem State.answer_dwu (lane : Lane) (kind : RequestKind) (status : Status) (payload : List Byte) : (s.answer lane kind status payload).dwu = s.dwu := rfl
@[simp] theorem State.answer_scc (lane : Lane) (kind : RequestKind) (status : Status) (payload : List Byte) : (s.answer lane kind status payload).scc = s.scc := rfl
@[simp] theorem State.answer_vlu (lane : Lane) (kind : RequestKind) (status : Status) (payload : List Byte) : (s.answer lane kind status payload).vlu = s.vlu := rfl
@[simp] theorem State.answer_trc (lane : Lane) (kind : RequestKind) (status : Status) (payload : List Byte) : (s.answer lane kind status payload).trc = s.trc := rfl
@[simp] theorem State.answer_tbu (lane : Lane) (kind : RequestKind) (status : Status) (payload : List Byte) : (s.answer lane kind status payload).tbu = s.tbu := rfl
@[simp] theorem State.answer_role (lane : Lane) (kind : RequestKind) (status : Status) (payload : List Byte) (j : Lane) :
    ((s.answer lane kind status payload).lanes.get j).role = (s.lanes.get j).role := by
  simp only [State.answer, State.updLane_get]; split <;> simp

/-! ### answerPinion -/

@[simp] theorem State.answerPinion_pending (k : Pinion) (payload : List Byte) : (s.answerPinion k payload).pending = s.pending := rfl
@[simp] theorem State.answerPinion_openReads (k : Pinion) (payload : List Byte) : (s.answerPinion k payload).openReads = s.openReads := rfl
@[simp] theorem State.answerPinion_capture (k : Pinion) (payload : List Byte) : (s.answerPinion k payload).capture = s.capture := rfl
@[simp] theorem State.answerPinion_rc (k : Pinion) (payload : List Byte) : (s.answerPinion k payload).rc = s.rc := rfl
@[simp] theorem State.answerPinion_slu (k : Pinion) (payload : List Byte) : (s.answerPinion k payload).slu = s.slu := rfl
@[simp] theorem State.answerPinion_crg (k : Pinion) (payload : List Byte) : (s.answerPinion k payload).crg = s.crg := rfl
@[simp] theorem State.answerPinion_rau (k : Pinion) (payload : List Byte) : (s.answerPinion k payload).rau = s.rau := rfl
@[simp] theorem State.answerPinion_dwu (k : Pinion) (payload : List Byte) : (s.answerPinion k payload).dwu = s.dwu := rfl
@[simp] theorem State.answerPinion_scc (k : Pinion) (payload : List Byte) : (s.answerPinion k payload).scc = s.scc := rfl
@[simp] theorem State.answerPinion_vlu (k : Pinion) (payload : List Byte) : (s.answerPinion k payload).vlu = s.vlu := rfl
@[simp] theorem State.answerPinion_trc (k : Pinion) (payload : List Byte) : (s.answerPinion k payload).trc = s.trc := rfl
@[simp] theorem State.answerPinion_tbu (k : Pinion) (payload : List Byte) : (s.answerPinion k payload).tbu = s.tbu := rfl
@[simp] theorem State.answerPinion_role (k : Pinion) (payload : List Byte) (j : Lane) :
    ((s.answerPinion k payload).lanes.get j).role = (s.lanes.get j).role := by
  simp only [State.answerPinion, State.updLanesWhere_get]; split <;> simp

/-! ### startSelection -/

@[simp] theorem State.startSelection_pending (lane : Lane) : (s.startSelection lane).pending = s.pending := rfl
@[simp] theorem State.startSelection_openReads (lane : Lane) : (s.startSelection lane).openReads = s.openReads := rfl
@[simp] theorem State.startSelection_capture (lane : Lane) : (s.startSelection lane).capture = s.capture := rfl
@[simp] theorem State.startSelection_rc (lane : Lane) : (s.startSelection lane).rc = s.rc := rfl
@[simp] theorem State.startSelection_slu (lane : Lane) : (s.startSelection lane).slu = s.slu := rfl
@[simp] theorem State.startSelection_crg (lane : Lane) : (s.startSelection lane).crg = s.crg := rfl
@[simp] theorem State.startSelection_rau (lane : Lane) : (s.startSelection lane).rau = s.rau := rfl
@[simp] theorem State.startSelection_dwu (lane : Lane) : (s.startSelection lane).dwu = s.dwu := rfl
@[simp] theorem State.startSelection_scc (lane : Lane) : (s.startSelection lane).scc = s.scc := rfl
@[simp] theorem State.startSelection_vlu (lane : Lane) : (s.startSelection lane).vlu = s.vlu := rfl
@[simp] theorem State.startSelection_trc (lane : Lane) : (s.startSelection lane).trc = s.trc := rfl
@[simp] theorem State.startSelection_tbu (lane : Lane) : (s.startSelection lane).tbu = s.tbu := rfl
@[simp] theorem State.startSelection_role (lane : Lane) (j : Lane) :
    ((s.startSelection lane).lanes.get j).role = (s.lanes.get j).role := by
  simp only [State.startSelection, State.updLane_get]; split <;> simp

/-! ### openSelection -/

@[simp] theorem State.openSelection_pending (lane : Lane) : (s.openSelection lane).pending = s.pending := by
  unfold State.openSelection; split <;> rfl
@[simp] theorem State.openSelection_openReads (lane : Lane) : (s.openSelection lane).openReads = s.openReads := by
  unfold State.openSelection; split <;> rfl
@[simp] theorem State.openSelection_capture (lane : Lane) : (s.openSelection lane).capture = s.capture := by
  unfold State.openSelection; split <;> rfl
@[simp] theorem State.openSelection_rc (lane : Lane) : (s.openSelection lane).rc = s.rc := by
  unfold State.openSelection; split <;> rfl
@[simp] theorem State.openSelection_slu (lane : Lane) : (s.openSelection lane).slu = s.slu := by
  unfold State.openSelection; split <;> rfl
@[simp] theorem State.openSelection_crg (lane : Lane) : (s.openSelection lane).crg = s.crg := by
  unfold State.openSelection; split <;> rfl
@[simp] theorem State.openSelection_rau (lane : Lane) : (s.openSelection lane).rau = s.rau := by
  unfold State.openSelection; split <;> rfl
@[simp] theorem State.openSelection_dwu (lane : Lane) : (s.openSelection lane).dwu = s.dwu := by
  unfold State.openSelection; split <;> rfl
@[simp] theorem State.openSelection_scc (lane : Lane) : (s.openSelection lane).scc = s.scc := by
  unfold State.openSelection; split <;> rfl
@[simp] theorem State.openSelection_vlu (lane : Lane) : (s.openSelection lane).vlu = s.vlu := by
  unfold State.openSelection; split <;> rfl
@[simp] theorem State.openSelection_trc (lane : Lane) : (s.openSelection lane).trc = s.trc := by
  unfold State.openSelection; split <;> rfl
@[simp] theorem State.openSelection_tbu (lane : Lane) : (s.openSelection lane).tbu = s.tbu := by
  unfold State.openSelection; split <;> rfl
@[simp] theorem State.openSelection_role (lane : Lane) (j : Lane) :
    ((s.openSelection lane).lanes.get j).role = (s.lanes.get j).role := by
  unfold State.openSelection; split <;> simp

/-! ### closeSelection -/

@[simp] theorem State.closeSelection_pending (lane : Lane) (bytes : List Byte) : (s.closeSelection lane bytes).pending = s.pending := rfl
@[simp] theorem State.closeSelection_openReads (lane : Lane) (bytes : List Byte) : (s.closeSelection lane bytes).openReads = s.openReads := rfl
@[simp] theorem State.closeSelection_capture (lane : Lane) (bytes : List Byte) : (s.closeSelection lane bytes).capture = s.capture := rfl
@[simp] theorem State.closeSelection_rc (lane : Lane) (bytes : List Byte) : (s.closeSelection lane bytes).rc = s.rc := rfl
@[simp] theorem State.closeSelection_slu (lane : Lane) (bytes : List Byte) : (s.closeSelection lane bytes).slu = s.slu := rfl
@[simp] theorem State.closeSelection_crg (lane : Lane) (bytes : List Byte) : (s.closeSelection lane bytes).crg = s.crg := rfl
@[simp] theorem State.closeSelection_rau (lane : Lane) (bytes : List Byte) : (s.closeSelection lane bytes).rau = s.rau := rfl
@[simp] theorem State.closeSelection_dwu (lane : Lane) (bytes : List Byte) : (s.closeSelection lane bytes).dwu = s.dwu := rfl
@[simp] theorem State.closeSelection_scc (lane : Lane) (bytes : List Byte) : (s.closeSelection lane bytes).scc = s.scc := rfl
@[simp] theorem State.closeSelection_vlu (lane : Lane) (bytes : List Byte) : (s.closeSelection lane bytes).vlu = s.vlu := rfl
@[simp] theorem State.closeSelection_trc (lane : Lane) (bytes : List Byte) : (s.closeSelection lane bytes).trc = s.trc := rfl
@[simp] theorem State.closeSelection_tbu (lane : Lane) (bytes : List Byte) : (s.closeSelection lane bytes).tbu = s.tbu := rfl
@[simp] theorem State.closeSelection_role (lane : Lane) (bytes : List Byte) (j : Lane) :
    ((s.closeSelection lane bytes).lanes.get j).role = (s.lanes.get j).role := by
  simp only [State.closeSelection, State.updLane_get]; split <;> simp

/-! ### captureRefusal -/

@[simp] theorem State.captureRefusal_pending (lane : Lane) (kind : RequestKind) : (s.captureRefusal lane kind).pending = s.pending := by
  unfold State.captureRefusal; split <;> rfl
@[simp] theorem State.captureRefusal_openReads (lane : Lane) (kind : RequestKind) : (s.captureRefusal lane kind).openReads = s.openReads := by
  unfold State.captureRefusal; split <;> rfl
@[simp] theorem State.captureRefusal_rc (lane : Lane) (kind : RequestKind) : (s.captureRefusal lane kind).rc = s.rc := by
  unfold State.captureRefusal; split <;> rfl
@[simp] theorem State.captureRefusal_slu (lane : Lane) (kind : RequestKind) : (s.captureRefusal lane kind).slu = s.slu := by
  unfold State.captureRefusal; split <;> rfl
@[simp] theorem State.captureRefusal_crg (lane : Lane) (kind : RequestKind) : (s.captureRefusal lane kind).crg = s.crg := by
  unfold State.captureRefusal; split <;> rfl
@[simp] theorem State.captureRefusal_rau (lane : Lane) (kind : RequestKind) : (s.captureRefusal lane kind).rau = s.rau := by
  unfold State.captureRefusal; split <;> rfl
@[simp] theorem State.captureRefusal_dwu (lane : Lane) (kind : RequestKind) : (s.captureRefusal lane kind).dwu = s.dwu := by
  unfold State.captureRefusal; split <;> rfl
@[simp] theorem State.captureRefusal_scc (lane : Lane) (kind : RequestKind) : (s.captureRefusal lane kind).scc = s.scc := by
  unfold State.captureRefusal; split <;> rfl
@[simp] theorem State.captureRefusal_vlu (lane : Lane) (kind : RequestKind) : (s.captureRefusal lane kind).vlu = s.vlu := by
  unfold State.captureRefusal; split <;> rfl
@[simp] theorem State.captureRefusal_trc (lane : Lane) (kind : RequestKind) : (s.captureRefusal lane kind).trc = s.trc := by
  unfold State.captureRefusal; split <;> rfl
@[simp] theorem State.captureRefusal_tbu (lane : Lane) (kind : RequestKind) : (s.captureRefusal lane kind).tbu = s.tbu := by
  unfold State.captureRefusal; split <;> rfl
@[simp] theorem State.captureRefusal_role (lane : Lane) (kind : RequestKind) (j : Lane) :
    ((s.captureRefusal lane kind).lanes.get j).role = (s.lanes.get j).role := by
  unfold State.captureRefusal; split <;> simp

/-! ### retargetPinion -/

@[simp] theorem State.retargetPinion_pending (k : Pinion) : (s.retargetPinion k).pending = s.pending := by
  unfold State.retargetPinion; dsimp only; (repeat' split) <;> rfl
@[simp] theorem State.retargetPinion_openReads (k : Pinion) : (s.retargetPinion k).openReads = s.openReads := by
  unfold State.retargetPinion; dsimp only; (repeat' split) <;> rfl
@[simp] theorem State.retargetPinion_capture (k : Pinion) : (s.retargetPinion k).capture = s.capture := by
  unfold State.retargetPinion; dsimp only; (repeat' split) <;> rfl
@[simp] theorem State.retargetPinion_rc (k : Pinion) : (s.retargetPinion k).rc = s.rc := by
  unfold State.retargetPinion; dsimp only; (repeat' split) <;> rfl
@[simp] theorem State.retargetPinion_crg (k : Pinion) : (s.retargetPinion k).crg = s.crg := by
  unfold State.retargetPinion; dsimp only; (repeat' split) <;> rfl
@[simp] theorem State.retargetPinion_rau (k : Pinion) : (s.retargetPinion k).rau = s.rau := by
  unfold State.retargetPinion; dsimp only; (repeat' split) <;> rfl
@[simp] theorem State.retargetPinion_dwu (k : Pinion) : (s.retargetPinion k).dwu = s.dwu := by
  unfold State.retargetPinion; dsimp only; (repeat' split) <;> rfl
@[simp] theorem State.retargetPinion_scc (k : Pinion) : (s.retargetPinion k).scc = s.scc := by
  unfold State.retargetPinion; dsimp only; (repeat' split) <;> rfl
@[simp] theorem State.retargetPinion_vlu (k : Pinion) : (s.retargetPinion k).vlu = s.vlu := by
  unfold State.retargetPinion; dsimp only; (repeat' split) <;> rfl
@[simp] theorem State.retargetPinion_trc (k : Pinion) : (s.retargetPinion k).trc = s.trc := by
  unfold State.retargetPinion; dsimp only; (repeat' split) <;> rfl
@[simp] theorem State.retargetPinion_tbu (k : Pinion) : (s.retargetPinion k).tbu = s.tbu := by
  unfold State.retargetPinion; dsimp only; (repeat' split) <;> rfl
@[simp] theorem State.retargetPinion_role (k : Pinion) (j : Lane) :
    ((s.retargetPinion k).lanes.get j).role = (s.lanes.get j).role := by
  unfold State.retargetPinion; dsimp only; (repeat' split) <;> simp

/-! ### retarget -/

@[simp] theorem State.retarget_pending : s.retarget.pending = s.pending := by
  simp [State.retarget]
@[simp] theorem State.retarget_openReads : s.retarget.openReads = s.openReads := by
  simp [State.retarget]
@[simp] theorem State.retarget_capture : s.retarget.capture = s.capture := by
  simp [State.retarget]
@[simp] theorem State.retarget_rc : s.retarget.rc = s.rc := by
  simp [State.retarget]
@[simp] theorem State.retarget_crg : s.retarget.crg = s.crg := by
  simp [State.retarget]
@[simp] theorem State.retarget_rau : s.retarget.rau = s.rau := by
  simp [State.retarget]
@[simp] theorem State.retarget_dwu : s.retarget.dwu = s.dwu := by
  simp [State.retarget]
@[simp] theorem State.retarget_scc : s.retarget.scc = s.scc := by
  simp [State.retarget]
@[simp] theorem State.retarget_vlu : s.retarget.vlu = s.vlu := by
  simp [State.retarget]
@[simp] theorem State.retarget_trc : s.retarget.trc = s.trc := by
  simp [State.retarget]
@[simp] theorem State.retarget_tbu : s.retarget.tbu = s.tbu := by
  simp [State.retarget]
@[simp] theorem State.retarget_role (j : Lane) :
    (s.retarget.lanes.get j).role = (s.lanes.get j).role := by
  simp [State.retarget]

/-! ### rampPinion -/

@[simp] theorem State.rampPinion_pending (k : Pinion) : (s.rampPinion k).pending = s.pending := by
  unfold State.rampPinion; dsimp only; (repeat' split) <;> rfl
@[simp] theorem State.rampPinion_openReads (k : Pinion) : (s.rampPinion k).openReads = s.openReads := by
  unfold State.rampPinion; dsimp only; (repeat' split) <;> rfl
@[simp] theorem State.rampPinion_capture (k : Pinion) : (s.rampPinion k).capture = s.capture := by
  unfold State.rampPinion; dsimp only; (repeat' split) <;> rfl
@[simp] theorem State.rampPinion_rc (k : Pinion) : (s.rampPinion k).rc = s.rc := by
  unfold State.rampPinion; dsimp only; (repeat' split) <;> rfl
@[simp] theorem State.rampPinion_crg (k : Pinion) : (s.rampPinion k).crg = s.crg := by
  unfold State.rampPinion; dsimp only; (repeat' split) <;> rfl
@[simp] theorem State.rampPinion_rau (k : Pinion) : (s.rampPinion k).rau = s.rau := by
  unfold State.rampPinion; dsimp only; (repeat' split) <;> rfl
@[simp] theorem State.rampPinion_dwu (k : Pinion) : (s.rampPinion k).dwu = s.dwu := by
  unfold State.rampPinion; dsimp only; (repeat' split) <;> rfl
@[simp] theorem State.rampPinion_scc (k : Pinion) : (s.rampPinion k).scc = s.scc := by
  unfold State.rampPinion; dsimp only; (repeat' split) <;> rfl
@[simp] theorem State.rampPinion_vlu (k : Pinion) : (s.rampPinion k).vlu = s.vlu := by
  unfold State.rampPinion; dsimp only; (repeat' split) <;> rfl
@[simp] theorem State.rampPinion_trc (k : Pinion) : (s.rampPinion k).trc = s.trc := by
  unfold State.rampPinion; dsimp only; (repeat' split) <;> rfl
@[simp] theorem State.rampPinion_tbu (k : Pinion) : (s.rampPinion k).tbu = s.tbu := by
  unfold State.rampPinion; dsimp only; (repeat' split) <;> rfl
@[simp] theorem State.rampPinion_role (k : Pinion) (j : Lane) :
    ((s.rampPinion k).lanes.get j).role = (s.lanes.get j).role := by
  unfold State.rampPinion; dsimp only; (repeat' split) <;> simp

/-! ### split -/

@[simp] theorem State.split_pending (t : Int) : (s.split t).pending = s.pending := rfl
@[simp] theorem State.split_openReads (t : Int) : (s.split t).openReads = s.openReads := rfl
@[simp] theorem State.split_lanes (t : Int) : (s.split t).lanes = s.lanes := rfl
@[simp] theorem State.split_capture (t : Int) : (s.split t).capture = s.capture := rfl
@[simp] theorem State.split_rc (t : Int) : (s.split t).rc = s.rc := rfl
@[simp] theorem State.split_crg (t : Int) : (s.split t).crg = s.crg := rfl
@[simp] theorem State.split_rau (t : Int) : (s.split t).rau = s.rau := rfl
@[simp] theorem State.split_dwu (t : Int) : (s.split t).dwu = s.dwu := rfl
@[simp] theorem State.split_scc (t : Int) : (s.split t).scc = s.scc := rfl
@[simp] theorem State.split_vlu (t : Int) : (s.split t).vlu = s.vlu := rfl
@[simp] theorem State.split_trc (t : Int) : (s.split t).trc = s.trc := rfl
@[simp] theorem State.split_tbu (t : Int) : (s.split t).tbu = s.tbu := rfl

/-! ### moveTo -/

@[simp] theorem State.moveTo_pending (d : DriveState) : (s.moveTo d).pending = s.pending := by
  simp [State.moveTo]
@[simp] theorem State.moveTo_openReads (d : DriveState) : (s.moveTo d).openReads = s.openReads := by
  simp [State.moveTo]
@[simp] theorem State.moveTo_capture (d : DriveState) : (s.moveTo d).capture = s.capture := by
  simp [State.moveTo]
@[simp] theorem State.moveTo_crg (d : DriveState) : (s.moveTo d).crg = s.crg := by
  simp [State.moveTo]
@[simp] theorem State.moveTo_rau (d : DriveState) : (s.moveTo d).rau = s.rau := by
  simp [State.moveTo]
@[simp] theorem State.moveTo_dwu (d : DriveState) : (s.moveTo d).dwu = s.dwu := by
  simp [State.moveTo]
@[simp] theorem State.moveTo_scc (d : DriveState) : (s.moveTo d).scc = s.scc := by
  simp [State.moveTo]
@[simp] theorem State.moveTo_vlu (d : DriveState) : (s.moveTo d).vlu = s.vlu := by
  simp [State.moveTo]
@[simp] theorem State.moveTo_trc (d : DriveState) : (s.moveTo d).trc = s.trc := by
  simp [State.moveTo]
@[simp] theorem State.moveTo_tbu (d : DriveState) : (s.moveTo d).tbu = s.tbu := by
  simp [State.moveTo]
@[simp] theorem State.moveTo_role (d : DriveState) (j : Lane) :
    ((s.moveTo d).lanes.get j).role = (s.lanes.get j).role := by
  simp [State.moveTo]

end Sys2Proof.Machine
end

