-- ==== Sys2Proof/Laws/Recorder.lean ====
section
/-! SUPPORT. Frames: what each operation of the trip recorder and the RAU leaves as it was, field by field. -/

namespace Sys2Proof.Machine

variable (s : State)

/-! ### closeRecord -/

@[simp] theorem State.closeRecord_pending (i : Fin 8) : (s.closeRecord i).pending = s.pending := rfl
@[simp] theorem State.closeRecord_openReads (i : Fin 8) : (s.closeRecord i).openReads = s.openReads := rfl
@[simp] theorem State.closeRecord_capture (i : Fin 8) : (s.closeRecord i).capture = s.capture := rfl
@[simp] theorem State.closeRecord_rc (i : Fin 8) : (s.closeRecord i).rc = s.rc := rfl
@[simp] theorem State.closeRecord_slu (i : Fin 8) : (s.closeRecord i).slu = s.slu := rfl
@[simp] theorem State.closeRecord_crg (i : Fin 8) : (s.closeRecord i).crg = s.crg := rfl
@[simp] theorem State.closeRecord_rau (i : Fin 8) : (s.closeRecord i).rau = s.rau := rfl
@[simp] theorem State.closeRecord_dwu (i : Fin 8) : (s.closeRecord i).dwu = s.dwu := rfl
@[simp] theorem State.closeRecord_scc (i : Fin 8) : (s.closeRecord i).scc = s.scc := rfl
@[simp] theorem State.closeRecord_vlu (i : Fin 8) : (s.closeRecord i).vlu = s.vlu := rfl
@[simp] theorem State.closeRecord_tbu (i : Fin 8) : (s.closeRecord i).tbu = s.tbu := rfl
@[simp] theorem State.closeRecord_role (i : Fin 8) (j : Lane) :
    ((s.closeRecord i).lanes.get j).role = (s.lanes.get j).role := by
  simp [State.closeRecord]

/-! ### writeEntryRecord -/

@[simp] theorem State.writeEntryRecord_pending (k : Pinion) (counter : Byte) (draft : Snapshot) : (s.writeEntryRecord k counter draft).pending = s.pending := rfl
@[simp] theorem State.writeEntryRecord_openReads (k : Pinion) (counter : Byte) (draft : Snapshot) : (s.writeEntryRecord k counter draft).openReads = s.openReads := rfl
@[simp] theorem State.writeEntryRecord_lanes (k : Pinion) (counter : Byte) (draft : Snapshot) : (s.writeEntryRecord k counter draft).lanes = s.lanes := rfl
@[simp] theorem State.writeEntryRecord_capture (k : Pinion) (counter : Byte) (draft : Snapshot) : (s.writeEntryRecord k counter draft).capture = s.capture := rfl
@[simp] theorem State.writeEntryRecord_rc (k : Pinion) (counter : Byte) (draft : Snapshot) : (s.writeEntryRecord k counter draft).rc = s.rc := rfl
@[simp] theorem State.writeEntryRecord_slu (k : Pinion) (counter : Byte) (draft : Snapshot) : (s.writeEntryRecord k counter draft).slu = s.slu := rfl
@[simp] theorem State.writeEntryRecord_crg (k : Pinion) (counter : Byte) (draft : Snapshot) : (s.writeEntryRecord k counter draft).crg = s.crg := rfl
@[simp] theorem State.writeEntryRecord_rau (k : Pinion) (counter : Byte) (draft : Snapshot) : (s.writeEntryRecord k counter draft).rau = s.rau := rfl
@[simp] theorem State.writeEntryRecord_dwu (k : Pinion) (counter : Byte) (draft : Snapshot) : (s.writeEntryRecord k counter draft).dwu = s.dwu := rfl
@[simp] theorem State.writeEntryRecord_scc (k : Pinion) (counter : Byte) (draft : Snapshot) : (s.writeEntryRecord k counter draft).scc = s.scc := rfl
@[simp] theorem State.writeEntryRecord_vlu (k : Pinion) (counter : Byte) (draft : Snapshot) : (s.writeEntryRecord k counter draft).vlu = s.vlu := rfl
@[simp] theorem State.writeEntryRecord_tbu (k : Pinion) (counter : Byte) (draft : Snapshot) : (s.writeEntryRecord k counter draft).tbu = s.tbu := rfl

/-! ### writeRecord -/

@[simp] theorem State.writeRecord_pending (k : Pinion) (counter : Byte) (draft : Snapshot) : (s.writeRecord k counter draft).pending = s.pending := by
  unfold State.writeRecord; dsimp only; (repeat' split) <;> rfl
@[simp] theorem State.writeRecord_openReads (k : Pinion) (counter : Byte) (draft : Snapshot) : (s.writeRecord k counter draft).openReads = s.openReads := by
  unfold State.writeRecord; dsimp only; (repeat' split) <;> rfl
@[simp] theorem State.writeRecord_capture (k : Pinion) (counter : Byte) (draft : Snapshot) : (s.writeRecord k counter draft).capture = s.capture := by
  unfold State.writeRecord; dsimp only; (repeat' split) <;> rfl
@[simp] theorem State.writeRecord_rc (k : Pinion) (counter : Byte) (draft : Snapshot) : (s.writeRecord k counter draft).rc = s.rc := by
  unfold State.writeRecord; dsimp only; (repeat' split) <;> rfl
@[simp] theorem State.writeRecord_slu (k : Pinion) (counter : Byte) (draft : Snapshot) : (s.writeRecord k counter draft).slu = s.slu := by
  unfold State.writeRecord; dsimp only; (repeat' split) <;> rfl
@[simp] theorem State.writeRecord_crg (k : Pinion) (counter : Byte) (draft : Snapshot) : (s.writeRecord k counter draft).crg = s.crg := by
  unfold State.writeRecord; dsimp only; (repeat' split) <;> rfl
@[simp] theorem State.writeRecord_rau (k : Pinion) (counter : Byte) (draft : Snapshot) : (s.writeRecord k counter draft).rau = s.rau := by
  unfold State.writeRecord; dsimp only; (repeat' split) <;> rfl
@[simp] theorem State.writeRecord_dwu (k : Pinion) (counter : Byte) (draft : Snapshot) : (s.writeRecord k counter draft).dwu = s.dwu := by
  unfold State.writeRecord; dsimp only; (repeat' split) <;> rfl
@[simp] theorem State.writeRecord_scc (k : Pinion) (counter : Byte) (draft : Snapshot) : (s.writeRecord k counter draft).scc = s.scc := by
  unfold State.writeRecord; dsimp only; (repeat' split) <;> rfl
@[simp] theorem State.writeRecord_vlu (k : Pinion) (counter : Byte) (draft : Snapshot) : (s.writeRecord k counter draft).vlu = s.vlu := by
  unfold State.writeRecord; dsimp only; (repeat' split) <;> rfl
@[simp] theorem State.writeRecord_tbu (k : Pinion) (counter : Byte) (draft : Snapshot) : (s.writeRecord k counter draft).tbu = s.tbu := by
  unfold State.writeRecord; dsimp only; (repeat' split) <;> rfl
@[simp] theorem State.writeRecord_role (k : Pinion) (counter : Byte) (draft : Snapshot) (j : Lane) :
    ((s.writeRecord k counter draft).lanes.get j).role = (s.lanes.get j).role := by
  unfold State.writeRecord; dsimp only; (repeat' split) <;> simp

/-! ### loseCursors -/

@[simp] theorem State.loseCursors_pending (slot : Fin 8) : (s.loseCursors slot).pending = s.pending := rfl
@[simp] theorem State.loseCursors_openReads (slot : Fin 8) : (s.loseCursors slot).openReads = s.openReads := rfl
@[simp] theorem State.loseCursors_capture (slot : Fin 8) : (s.loseCursors slot).capture = s.capture := rfl
@[simp] theorem State.loseCursors_rc (slot : Fin 8) : (s.loseCursors slot).rc = s.rc := rfl
@[simp] theorem State.loseCursors_slu (slot : Fin 8) : (s.loseCursors slot).slu = s.slu := rfl
@[simp] theorem State.loseCursors_crg (slot : Fin 8) : (s.loseCursors slot).crg = s.crg := rfl
@[simp] theorem State.loseCursors_rau (slot : Fin 8) : (s.loseCursors slot).rau = s.rau := rfl
@[simp] theorem State.loseCursors_dwu (slot : Fin 8) : (s.loseCursors slot).dwu = s.dwu := rfl
@[simp] theorem State.loseCursors_scc (slot : Fin 8) : (s.loseCursors slot).scc = s.scc := rfl
@[simp] theorem State.loseCursors_vlu (slot : Fin 8) : (s.loseCursors slot).vlu = s.vlu := rfl
@[simp] theorem State.loseCursors_trc (slot : Fin 8) : (s.loseCursors slot).trc = s.trc := rfl
@[simp] theorem State.loseCursors_tbu (slot : Fin 8) : (s.loseCursors slot).tbu = s.tbu := rfl
@[simp] theorem State.loseCursors_role (slot : Fin 8) (j : Lane) :
    ((s.loseCursors slot).lanes.get j).role = (s.lanes.get j).role := by
  simp only [State.loseCursors, State.updLanesWhere_get]; split <;> simp

/-! ### openSlot -/

@[simp] theorem State.openSlot_pending (i : Fin 8) (cause : Cause) (value limit : Nat) : (s.openSlot i cause value limit).pending = s.pending := rfl
@[simp] theorem State.openSlot_openReads (i : Fin 8) (cause : Cause) (value limit : Nat) : (s.openSlot i cause value limit).openReads = s.openReads := rfl
@[simp] theorem State.openSlot_capture (i : Fin 8) (cause : Cause) (value limit : Nat) : (s.openSlot i cause value limit).capture = s.capture := rfl
@[simp] theorem State.openSlot_rc (i : Fin 8) (cause : Cause) (value limit : Nat) : (s.openSlot i cause value limit).rc = s.rc := rfl
@[simp] theorem State.openSlot_slu (i : Fin 8) (cause : Cause) (value limit : Nat) : (s.openSlot i cause value limit).slu = s.slu := rfl
@[simp] theorem State.openSlot_crg (i : Fin 8) (cause : Cause) (value limit : Nat) : (s.openSlot i cause value limit).crg = s.crg := rfl
@[simp] theorem State.openSlot_rau (i : Fin 8) (cause : Cause) (value limit : Nat) : (s.openSlot i cause value limit).rau = s.rau := rfl
@[simp] theorem State.openSlot_dwu (i : Fin 8) (cause : Cause) (value limit : Nat) : (s.openSlot i cause value limit).dwu = s.dwu := rfl
@[simp] theorem State.openSlot_scc (i : Fin 8) (cause : Cause) (value limit : Nat) : (s.openSlot i cause value limit).scc = s.scc := rfl
@[simp] theorem State.openSlot_vlu (i : Fin 8) (cause : Cause) (value limit : Nat) : (s.openSlot i cause value limit).vlu = s.vlu := rfl
@[simp] theorem State.openSlot_tbu (i : Fin 8) (cause : Cause) (value limit : Nat) : (s.openSlot i cause value limit).tbu = s.tbu := rfl
@[simp] theorem State.openSlot_role (i : Fin 8) (cause : Cause) (value limit : Nat) (j : Lane) :
    ((s.openSlot i cause value limit).lanes.get j).role = (s.lanes.get j).role := by
  simp [State.openSlot]

/-! ### overflowTrip -/

@[simp] theorem State.overflowTrip_pending (cause : Cause) : (s.overflowTrip cause).pending = s.pending := rfl
@[simp] theorem State.overflowTrip_openReads (cause : Cause) : (s.overflowTrip cause).openReads = s.openReads := rfl
@[simp] theorem State.overflowTrip_lanes (cause : Cause) : (s.overflowTrip cause).lanes = s.lanes := rfl
@[simp] theorem State.overflowTrip_capture (cause : Cause) : (s.overflowTrip cause).capture = s.capture := rfl
@[simp] theorem State.overflowTrip_rc (cause : Cause) : (s.overflowTrip cause).rc = s.rc := rfl
@[simp] theorem State.overflowTrip_slu (cause : Cause) : (s.overflowTrip cause).slu = s.slu := rfl
@[simp] theorem State.overflowTrip_crg (cause : Cause) : (s.overflowTrip cause).crg = s.crg := rfl
@[simp] theorem State.overflowTrip_rau (cause : Cause) : (s.overflowTrip cause).rau = s.rau := rfl
@[simp] theorem State.overflowTrip_dwu (cause : Cause) : (s.overflowTrip cause).dwu = s.dwu := rfl
@[simp] theorem State.overflowTrip_scc (cause : Cause) : (s.overflowTrip cause).scc = s.scc := rfl
@[simp] theorem State.overflowTrip_vlu (cause : Cause) : (s.overflowTrip cause).vlu = s.vlu := rfl
@[simp] theorem State.overflowTrip_tbu (cause : Cause) : (s.overflowTrip cause).tbu = s.tbu := rfl

/-! ### recordTrip -/

@[simp] theorem State.recordTrip_pending (cause : Cause) (value limit : Nat) : (s.recordTrip cause value limit).pending = s.pending := by
  unfold State.recordTrip; dsimp only; (repeat' split) <;> rfl
@[simp] theorem State.recordTrip_openReads (cause : Cause) (value limit : Nat) : (s.recordTrip cause value limit).openReads = s.openReads := by
  unfold State.recordTrip; dsimp only; (repeat' split) <;> rfl
@[simp] theorem State.recordTrip_capture (cause : Cause) (value limit : Nat) : (s.recordTrip cause value limit).capture = s.capture := by
  unfold State.recordTrip; dsimp only; (repeat' split) <;> rfl
@[simp] theorem State.recordTrip_rc (cause : Cause) (value limit : Nat) : (s.recordTrip cause value limit).rc = s.rc := by
  unfold State.recordTrip; dsimp only; (repeat' split) <;> rfl
@[simp] theorem State.recordTrip_slu (cause : Cause) (value limit : Nat) : (s.recordTrip cause value limit).slu = s.slu := by
  unfold State.recordTrip; dsimp only; (repeat' split) <;> rfl
@[simp] theorem State.recordTrip_crg (cause : Cause) (value limit : Nat) : (s.recordTrip cause value limit).crg = s.crg := by
  unfold State.recordTrip; dsimp only; (repeat' split) <;> rfl
@[simp] theorem State.recordTrip_rau (cause : Cause) (value limit : Nat) : (s.recordTrip cause value limit).rau = s.rau := by
  unfold State.recordTrip; dsimp only; (repeat' split) <;> rfl
@[simp] theorem State.recordTrip_dwu (cause : Cause) (value limit : Nat) : (s.recordTrip cause value limit).dwu = s.dwu := by
  unfold State.recordTrip; dsimp only; (repeat' split) <;> rfl
@[simp] theorem State.recordTrip_scc (cause : Cause) (value limit : Nat) : (s.recordTrip cause value limit).scc = s.scc := by
  unfold State.recordTrip; dsimp only; (repeat' split) <;> rfl
@[simp] theorem State.recordTrip_vlu (cause : Cause) (value limit : Nat) : (s.recordTrip cause value limit).vlu = s.vlu := by
  unfold State.recordTrip; dsimp only; (repeat' split) <;> rfl
@[simp] theorem State.recordTrip_tbu (cause : Cause) (value limit : Nat) : (s.recordTrip cause value limit).tbu = s.tbu := by
  unfold State.recordTrip; dsimp only; (repeat' split) <;> rfl
@[simp] theorem State.recordTrip_role (cause : Cause) (value limit : Nat) (j : Lane) :
    ((s.recordTrip cause value limit).lanes.get j).role = (s.lanes.get j).role := by
  unfold State.recordTrip; dsimp only; (repeat' split) <;> simp

/-! ### offerLater -/

@[simp] theorem State.offerLater_pending (cause : Cause) : (s.offerLater cause).pending = s.pending := by
  unfold State.offerLater; split <;> rfl
@[simp] theorem State.offerLater_openReads (cause : Cause) : (s.offerLater cause).openReads = s.openReads := by
  unfold State.offerLater; split <;> rfl
@[simp] theorem State.offerLater_lanes (cause : Cause) : (s.offerLater cause).lanes = s.lanes := by
  unfold State.offerLater; split <;> rfl
@[simp] theorem State.offerLater_capture (cause : Cause) : (s.offerLater cause).capture = s.capture := by
  unfold State.offerLater; split <;> rfl
@[simp] theorem State.offerLater_rc (cause : Cause) : (s.offerLater cause).rc = s.rc := by
  unfold State.offerLater; split <;> rfl
@[simp] theorem State.offerLater_slu (cause : Cause) : (s.offerLater cause).slu = s.slu := by
  unfold State.offerLater; split <;> rfl
@[simp] theorem State.offerLater_crg (cause : Cause) : (s.offerLater cause).crg = s.crg := by
  unfold State.offerLater; split <;> rfl
@[simp] theorem State.offerLater_rau (cause : Cause) : (s.offerLater cause).rau = s.rau := by
  unfold State.offerLater; split <;> rfl
@[simp] theorem State.offerLater_dwu (cause : Cause) : (s.offerLater cause).dwu = s.dwu := by
  unfold State.offerLater; split <;> rfl
@[simp] theorem State.offerLater_scc (cause : Cause) : (s.offerLater cause).scc = s.scc := by
  unfold State.offerLater; split <;> rfl
@[simp] theorem State.offerLater_vlu (cause : Cause) : (s.offerLater cause).vlu = s.vlu := by
  unfold State.offerLater; split <;> rfl
@[simp] theorem State.offerLater_tbu (cause : Cause) : (s.offerLater cause).tbu = s.tbu := by
  unfold State.offerLater; split <;> rfl

/-! ### startComputation -/

@[simp] theorem State.startComputation_pending (e : Entry) : (s.startComputation e).pending = s.pending := rfl
@[simp] theorem State.startComputation_openReads (e : Entry) : (s.startComputation e).openReads = s.openReads := rfl
@[simp] theorem State.startComputation_lanes (e : Entry) : (s.startComputation e).lanes = s.lanes := rfl
@[simp] theorem State.startComputation_capture (e : Entry) : (s.startComputation e).capture = s.capture := rfl
@[simp] theorem State.startComputation_rc (e : Entry) : (s.startComputation e).rc = s.rc := rfl
@[simp] theorem State.startComputation_slu (e : Entry) : (s.startComputation e).slu = s.slu := rfl
@[simp] theorem State.startComputation_dwu (e : Entry) : (s.startComputation e).dwu = s.dwu := rfl
@[simp] theorem State.startComputation_scc (e : Entry) : (s.startComputation e).scc = s.scc := rfl
@[simp] theorem State.startComputation_vlu (e : Entry) : (s.startComputation e).vlu = s.vlu := rfl
@[simp] theorem State.startComputation_trc (e : Entry) : (s.startComputation e).trc = s.trc := rfl
@[simp] theorem State.startComputation_tbu (e : Entry) : (s.startComputation e).tbu = s.tbu := rfl

/-! ### enterRau -/

@[simp] theorem State.enterRau_pending (e : Entry) : (s.enterRau e).pending = s.pending := by
  unfold State.enterRau; split <;> rfl
@[simp] theorem State.enterRau_openReads (e : Entry) : (s.enterRau e).openReads = s.openReads := by
  unfold State.enterRau; split <;> rfl
@[simp] theorem State.enterRau_lanes (e : Entry) : (s.enterRau e).lanes = s.lanes := by
  unfold State.enterRau; split <;> rfl
@[simp] theorem State.enterRau_capture (e : Entry) : (s.enterRau e).capture = s.capture := by
  unfold State.enterRau; split <;> rfl
@[simp] theorem State.enterRau_rc (e : Entry) : (s.enterRau e).rc = s.rc := by
  unfold State.enterRau; split <;> rfl
@[simp] theorem State.enterRau_slu (e : Entry) : (s.enterRau e).slu = s.slu := by
  unfold State.enterRau; split <;> rfl
@[simp] theorem State.enterRau_dwu (e : Entry) : (s.enterRau e).dwu = s.dwu := by
  unfold State.enterRau; split <;> rfl
@[simp] theorem State.enterRau_scc (e : Entry) : (s.enterRau e).scc = s.scc := by
  unfold State.enterRau; split <;> rfl
@[simp] theorem State.enterRau_vlu (e : Entry) : (s.enterRau e).vlu = s.vlu := by
  unfold State.enterRau; split <;> rfl
@[simp] theorem State.enterRau_trc (e : Entry) : (s.enterRau e).trc = s.trc := by
  unfold State.enterRau; split <;> rfl
@[simp] theorem State.enterRau_tbu (e : Entry) : (s.enterRau e).tbu = s.tbu := by
  unfold State.enterRau; split <;> rfl

/-! ### startWaiting -/

@[simp] theorem State.startWaiting_pending : s.startWaiting.pending = s.pending := by
  unfold State.startWaiting; split <;> rfl
@[simp] theorem State.startWaiting_openReads : s.startWaiting.openReads = s.openReads := by
  unfold State.startWaiting; split <;> rfl
@[simp] theorem State.startWaiting_lanes : s.startWaiting.lanes = s.lanes := by
  unfold State.startWaiting; split <;> rfl
@[simp] theorem State.startWaiting_capture : s.startWaiting.capture = s.capture := by
  unfold State.startWaiting; split <;> rfl
@[simp] theorem State.startWaiting_rc : s.startWaiting.rc = s.rc := by
  unfold State.startWaiting; split <;> rfl
@[simp] theorem State.startWaiting_slu : s.startWaiting.slu = s.slu := by
  unfold State.startWaiting; split <;> rfl
@[simp] theorem State.startWaiting_dwu : s.startWaiting.dwu = s.dwu := by
  unfold State.startWaiting; split <;> rfl
@[simp] theorem State.startWaiting_scc : s.startWaiting.scc = s.scc := by
  unfold State.startWaiting; split <;> rfl
@[simp] theorem State.startWaiting_vlu : s.startWaiting.vlu = s.vlu := by
  unfold State.startWaiting; split <;> rfl
@[simp] theorem State.startWaiting_trc : s.startWaiting.trc = s.trc := by
  unfold State.startWaiting; split <;> rfl
@[simp] theorem State.startWaiting_tbu : s.startWaiting.tbu = s.tbu := by
  unfold State.startWaiting; split <;> rfl

/-! ### completeComputation -/

@[simp] theorem State.completeComputation_pending (c : Computation) : (s.completeComputation c).pending = s.pending := by
  simp [State.completeComputation]
@[simp] theorem State.completeComputation_openReads (c : Computation) : (s.completeComputation c).openReads = s.openReads := by
  simp [State.completeComputation]
@[simp] theorem State.completeComputation_capture (c : Computation) : (s.completeComputation c).capture = s.capture := by
  simp [State.completeComputation]
@[simp] theorem State.completeComputation_rc (c : Computation) : (s.completeComputation c).rc = s.rc := by
  simp [State.completeComputation]
@[simp] theorem State.completeComputation_slu (c : Computation) : (s.completeComputation c).slu = s.slu := by
  simp [State.completeComputation]
@[simp] theorem State.completeComputation_dwu (c : Computation) : (s.completeComputation c).dwu = s.dwu := by
  simp [State.completeComputation]
@[simp] theorem State.completeComputation_scc (c : Computation) : (s.completeComputation c).scc = s.scc := by
  simp [State.completeComputation]
@[simp] theorem State.completeComputation_vlu (c : Computation) : (s.completeComputation c).vlu = s.vlu := by
  simp [State.completeComputation]
@[simp] theorem State.completeComputation_tbu (c : Computation) : (s.completeComputation c).tbu = s.tbu := by
  simp [State.completeComputation]
@[simp] theorem State.completeComputation_role (c : Computation) (j : Lane) :
    ((s.completeComputation c).lanes.get j).role = (s.lanes.get j).role := by
  simp [State.completeComputation]

end Sys2Proof.Machine
end

