-- ==== Sys2Proof/Laws/Trip.lean ====
section
/-! SUPPORT. Frames: what leaving regulation and trip entry leave as they were, field by field. -/

namespace Sys2Proof.Machine

variable (s : State)

/-! ### enterRest -/

@[simp] theorem State.enterRest_pending (d : DriveState) : (s.enterRest d).pending = s.pending := by
  simp [State.enterRest]
@[simp] theorem State.enterRest_openReads (d : DriveState) : (s.enterRest d).openReads = s.openReads := by
  simp [State.enterRest]
@[simp] theorem State.enterRest_capture (d : DriveState) : (s.enterRest d).capture = s.capture := by
  simp [State.enterRest]
@[simp] theorem State.enterRest_dwu (d : DriveState) : (s.enterRest d).dwu = s.dwu := by
  simp [State.enterRest]
@[simp] theorem State.enterRest_scc (d : DriveState) : (s.enterRest d).scc = s.scc := by
  simp [State.enterRest]
@[simp] theorem State.enterRest_vlu (d : DriveState) : (s.enterRest d).vlu = s.vlu := by
  simp [State.enterRest]
@[simp] theorem State.enterRest_trc (d : DriveState) : (s.enterRest d).trc = s.trc := by
  simp [State.enterRest]
@[simp] theorem State.enterRest_tbu (d : DriveState) : (s.enterRest d).tbu = s.tbu := by
  simp [State.enterRest]
@[simp] theorem State.enterRest_role (d : DriveState) (j : Lane) :
    ((s.enterRest d).lanes.get j).role = (s.lanes.get j).role := by
  simp [State.enterRest]

/-! ### abandonAtTrip -/

@[simp] theorem State.abandonAtTrip_pending (e : Entry) : (s.abandonAtTrip e).pending = s.pending := rfl
@[simp] theorem State.abandonAtTrip_openReads (e : Entry) : (s.abandonAtTrip e).openReads = s.openReads := rfl
@[simp] theorem State.abandonAtTrip_lanes (e : Entry) : (s.abandonAtTrip e).lanes = s.lanes := rfl
@[simp] theorem State.abandonAtTrip_capture (e : Entry) : (s.abandonAtTrip e).capture = s.capture := rfl
@[simp] theorem State.abandonAtTrip_rc (e : Entry) : (s.abandonAtTrip e).rc = s.rc := rfl
@[simp] theorem State.abandonAtTrip_slu (e : Entry) : (s.abandonAtTrip e).slu = s.slu := rfl
@[simp] theorem State.abandonAtTrip_crg (e : Entry) : (s.abandonAtTrip e).crg = s.crg := rfl
@[simp] theorem State.abandonAtTrip_rau (e : Entry) : (s.abandonAtTrip e).rau = s.rau := rfl
@[simp] theorem State.abandonAtTrip_dwu (e : Entry) : (s.abandonAtTrip e).dwu = s.dwu := rfl
@[simp] theorem State.abandonAtTrip_scc (e : Entry) : (s.abandonAtTrip e).scc = s.scc := rfl
@[simp] theorem State.abandonAtTrip_vlu (e : Entry) : (s.abandonAtTrip e).vlu = s.vlu := rfl
@[simp] theorem State.abandonAtTrip_tbu (e : Entry) : (s.abandonAtTrip e).tbu = s.tbu := rfl

/-! ### abandonAtStop -/

@[simp] theorem State.abandonAtStop_pending (e : Entry) : (s.abandonAtStop e).pending = s.pending := by
  simp [State.abandonAtStop]
@[simp] theorem State.abandonAtStop_openReads (e : Entry) : (s.abandonAtStop e).openReads = s.openReads := by
  simp [State.abandonAtStop]
@[simp] theorem State.abandonAtStop_capture (e : Entry) : (s.abandonAtStop e).capture = s.capture := by
  simp [State.abandonAtStop]
@[simp] theorem State.abandonAtStop_rc (e : Entry) : (s.abandonAtStop e).rc = s.rc := by
  simp [State.abandonAtStop]
@[simp] theorem State.abandonAtStop_slu (e : Entry) : (s.abandonAtStop e).slu = s.slu := by
  simp [State.abandonAtStop]
@[simp] theorem State.abandonAtStop_crg (e : Entry) : (s.abandonAtStop e).crg = s.crg := by
  simp [State.abandonAtStop]
@[simp] theorem State.abandonAtStop_rau (e : Entry) : (s.abandonAtStop e).rau = s.rau := by
  simp [State.abandonAtStop]
@[simp] theorem State.abandonAtStop_dwu (e : Entry) : (s.abandonAtStop e).dwu = s.dwu := by
  simp [State.abandonAtStop]
@[simp] theorem State.abandonAtStop_scc (e : Entry) : (s.abandonAtStop e).scc = s.scc := by
  simp [State.abandonAtStop]
@[simp] theorem State.abandonAtStop_vlu (e : Entry) : (s.abandonAtStop e).vlu = s.vlu := by
  simp [State.abandonAtStop]
@[simp] theorem State.abandonAtStop_tbu (e : Entry) : (s.abandonAtStop e).tbu = s.tbu := by
  simp [State.abandonAtStop]
@[simp] theorem State.abandonAtStop_role (e : Entry) (j : Lane) :
    ((s.abandonAtStop e).lanes.get j).role = (s.lanes.get j).role := by
  simp [State.abandonAtStop]

/-! ### writeTrigger -/

@[simp] theorem State.writeTrigger_pending (e : Option Entry) : (s.writeTrigger e).pending = s.pending := by
  unfold State.writeTrigger; split <;> rfl
@[simp] theorem State.writeTrigger_openReads (e : Option Entry) : (s.writeTrigger e).openReads = s.openReads := by
  unfold State.writeTrigger; split <;> rfl
@[simp] theorem State.writeTrigger_lanes (e : Option Entry) : (s.writeTrigger e).lanes = s.lanes := by
  unfold State.writeTrigger; split <;> rfl
@[simp] theorem State.writeTrigger_capture (e : Option Entry) : (s.writeTrigger e).capture = s.capture := by
  unfold State.writeTrigger; split <;> rfl
@[simp] theorem State.writeTrigger_rc (e : Option Entry) : (s.writeTrigger e).rc = s.rc := by
  unfold State.writeTrigger; split <;> rfl
@[simp] theorem State.writeTrigger_slu (e : Option Entry) : (s.writeTrigger e).slu = s.slu := by
  unfold State.writeTrigger; split <;> rfl
@[simp] theorem State.writeTrigger_crg (e : Option Entry) : (s.writeTrigger e).crg = s.crg := by
  unfold State.writeTrigger; split <;> rfl
@[simp] theorem State.writeTrigger_rau (e : Option Entry) : (s.writeTrigger e).rau = s.rau := by
  unfold State.writeTrigger; split <;> rfl
@[simp] theorem State.writeTrigger_dwu (e : Option Entry) : (s.writeTrigger e).dwu = s.dwu := by
  unfold State.writeTrigger; split <;> rfl
@[simp] theorem State.writeTrigger_scc (e : Option Entry) : (s.writeTrigger e).scc = s.scc := by
  unfold State.writeTrigger; split <;> rfl
@[simp] theorem State.writeTrigger_vlu (e : Option Entry) : (s.writeTrigger e).vlu = s.vlu := by
  unfold State.writeTrigger; split <;> rfl
@[simp] theorem State.writeTrigger_tbu (e : Option Entry) : (s.writeTrigger e).tbu = s.tbu := by
  unfold State.writeTrigger; split <;> rfl

end Sys2Proof.Machine
end

