-- ==== Sys2Proof/Laws/Limits.lean ====
section
/-! SUPPORT. What the operations over lanes and over the limit chain do, said once: notices, the recomputation of the
targets, the entry actions of the states without regulation. -/

namespace Sys2Proof.Machine

variable (s : State)

/-! ### Notices -/

@[simp] theorem or_zero_byte (b : Byte) : b ||| 0 = b := by simp

@[simp] theorem LaneState.or_zero_notices (l : LaneState) : { l with notices := l.notices ||| 0 } = l := by simp

theorem LaneState.raise_eq (l : LaneState) (k : Notice) :
    l.raise k = { l with notices := l.notices ||| k.bit } := rfl

@[simp] theorem State.raiseAll_get (k : Notice) (j : Lane) :
    (s.raiseAll k).lanes.get j = (s.lanes.get j).raise k := by
  simp [State.raiseAll]

theorem State.raisePinion_get (p : Pinion) (k : Notice) (j : Lane) :
    (s.raisePinion p k).lanes.get j =
      if (s.lanes.get j).role = pinionRole p then (s.lanes.get j).raise k else s.lanes.get j := by
  simp [State.raisePinion]

theorem State.raiseWatchers_get (k : Notice) (j : Lane) :
    (s.raiseWatchers k).lanes.get j =
      if (s.lanes.get j).role = .plant ∨ (s.lanes.get j).role = .monitor then (s.lanes.get j).raise k
      else s.lanes.get j := by
  simp [State.raiseWatchers]

/-! ### The limit chain -/

@[simp] theorem State.modeCeiling_eq_zero (h : s.rc.drive.regulating = false) : s.modeCeiling = 0 := by
  unfold State.modeCeiling
  cases hd : s.rc.drive <;> simp_all [DriveState.regulating]

@[simp] theorem State.targetOf_eq_zero (k : Pinion) (h : s.rc.drive.regulating = false) : s.targetOf k = 0 := by
  simp [State.targetOf, h]

/-- What a target depends on. -/
theorem State.targetOf_congr {s t : State} (k : Pinion) (hp : t.slu.plant = s.slu.plant) (hc : t.slu.ceil = s.slu.ceil)
    (hd : t.slu.derate = s.slu.derate) (hi : t.slu.inch = s.slu.inch) (hr : t.rc.drive = s.rc.drive)
    (hv : ∀ c, (t.vlu.channels.get c).derates k = (s.vlu.channels.get c).derates k) :
    t.targetOf k = s.targetOf k := by
  simp only [State.targetOf, State.vibCeiling, State.vibSource, State.modeCeiling, hp, hc, hd, hi, hr, hv]
  rfl

theorem derates_iff (c : ChannelEntry) (k : Pinion) : c.derates k = true ↔ Derates c k := by
  simp only [ChannelEntry.derates, Derates, Bool.and_eq_true, Bool.or_eq_true, beq_iff_eq, and_assoc]
  refine and_congr_right fun _ => and_congr_left fun _ => ?_
  cases c.config.group <;> cases k <;> simp [Group.covers]

theorem State.vibSource_isSome (k : Pinion) :
    (s.vibSource k).isSome = true ↔ ∃ c, Derates (s.vlu.channels.get c) k := by
  simp [State.vibSource, List.find?_isSome, derates_iff]

/-- The function `targetOf` computes the target of R38 to R40. -/
theorem targetIs_iff (k : Pinion) (n : Nat) : TargetIs s k n ↔ n = s.targetOf k := by
  have hv := s.vibSource_isSome k
  constructor
  · rintro ⟨v, m, rfl, h1, h2, h3, h4, h5⟩
    have ev : v = s.vibCeiling k := by
      unfold State.vibCeiling
      split
      · rename_i h
        exact h1 (hv.mp h)
      · rename_i h
        exact h2 fun c hc => h (hv.mpr ⟨c, hc⟩)
    have em : m = s.modeCeiling := by
      unfold State.modeCeiling
      cases hd : s.rc.drive <;> simp_all [Config.fullScale]
    rw [ev, em]
    rfl
  · rintro rfl
    refine ⟨s.vibCeiling k, s.modeCeiling, rfl, fun h => ?_, fun h => ?_, ?_, ?_, ?_⟩
    · simp [State.vibCeiling, hv.mpr h]
    · have : (s.vibSource k).isSome = false := by
        rw [Bool.eq_false_iff]
        exact fun hs => let ⟨c, hc⟩ := hv.mp hs; h c hc
      simp [State.vibCeiling, this, Config.fullScale]
    · rintro (h | h) <;> simp [State.modeCeiling, h, Config.fullScale]
    · intro h
      simp [State.modeCeiling, h]
    · rintro (h | h | h) <;> simp [State.modeCeiling, h]

theorem State.targetOf_le_plant (k : Pinion) : s.targetOf k ≤ s.slu.plant :=
  (Nat.min_le_left _ _).trans (Nat.min_le_left _ _)

theorem State.targetOf_le_ceil (k : Pinion) : s.targetOf k ≤ s.slu.ceil.get k :=
  (Nat.min_le_left _ _).trans (Nat.min_le_right _ _)

/-- The split and limit unit of one pinion after its target has been recomputed. -/
def ShareLimit.retargeted (u : ShareLimit) (k : Pinion) (t : Nat) : ShareLimit :=
  if t < u.limit.get k then (u.setTarget k t).setLimit k t else u.setTarget k t

theorem State.retargetPinion_slu (k : Pinion) :
    (s.retargetPinion k).slu = s.slu.retargeted k (s.targetOf k) := by
  unfold State.retargetPinion ShareLimit.retargeted
  dsimp only
  split <;> rfl

theorem State.retargetPinion_lanes (k : Pinion) (j : Lane) :
    (s.retargetPinion k).lanes.get j =
      if s.targetOf k < s.slu.limit.get k ∧ (s.lanes.get j).role = pinionRole k then (s.lanes.get j).raise .limit
      else s.lanes.get j := by
  unfold State.retargetPinion
  dsimp only
  by_cases hr : (s.lanes.get j).role = pinionRole k <;> split <;> simp_all [State.raisePinion_get]

section
variable (u : ShareLimit) (k : Pinion) (t : Nat)
@[simp] theorem ShareLimit.retargeted_lead : (u.retargeted k t).lead = u.lead := by
  unfold ShareLimit.retargeted; split <;> rfl
@[simp] theorem ShareLimit.retargeted_offset : (u.retargeted k t).offset = u.offset := by
  unfold ShareLimit.retargeted; split <;> rfl
@[simp] theorem ShareLimit.retargeted_raw : (u.retargeted k t).raw = u.raw := by
  unfold ShareLimit.retargeted; split <;> rfl
@[simp] theorem ShareLimit.retargeted_plant : (u.retargeted k t).plant = u.plant := by
  unfold ShareLimit.retargeted; split <;> rfl
@[simp] theorem ShareLimit.retargeted_ceil : (u.retargeted k t).ceil = u.ceil := by
  unfold ShareLimit.retargeted; split <;> rfl
@[simp] theorem ShareLimit.retargeted_derate : (u.retargeted k t).derate = u.derate := by
  unfold ShareLimit.retargeted; split <;> rfl
@[simp] theorem ShareLimit.retargeted_inch : (u.retargeted k t).inch = u.inch := by
  unfold ShareLimit.retargeted; split <;> rfl
@[simp] theorem ShareLimit.retargeted_rampStep : (u.retargeted k t).rampStep = u.rampStep := by
  unfold ShareLimit.retargeted; split <;> rfl
@[simp] theorem ShareLimit.retargeted_target : (u.retargeted k t).target = u.target.set k t := by
  unfold ShareLimit.retargeted; split <;> rfl
@[simp] theorem ShareLimit.retargeted_limit : (u.retargeted k t).limit = u.limit.set k (min (u.limit.get k) t) := by
  unfold ShareLimit.retargeted
  split
  · rename_i h
    rw [Nat.min_eq_right h.le]
    rfl
  · rename_i h
    rw [Nat.min_eq_left (Nat.le_of_not_lt h), Pair.set_get]
    rfl
theorem ShareLimit.retargeted_iref : (u.retargeted k t).iref =
    if t < u.limit.get k then u.iref.set k (clampInt (u.raw.get k) (-(t : Int)) t) else u.iref := by
  unfold ShareLimit.retargeted
  split
  · simp [ShareLimit.setLimit, ShareLimit.reclamp, ShareLimit.setTarget]
  · rfl
theorem ShareLimit.retargeted_limited : (u.retargeted k t).limited =
    if t < u.limit.get k then u.limited.set k (decide (t < (u.raw.get k).natAbs)) else u.limited := by
  unfold ShareLimit.retargeted
  split
  · simp [ShareLimit.setLimit, ShareLimit.reclamp, ShareLimit.setTarget]
  · rfl
end

/-- Recomputing one target leaves the ceilings of the other alone. -/
@[simp] theorem State.targetOf_retargetPinion (k j : Pinion) : (s.retargetPinion k).targetOf j = s.targetOf j :=
  State.targetOf_congr j (by simp [State.retargetPinion_slu]) (by simp [State.retargetPinion_slu])
    (by simp [State.retargetPinion_slu]) (by simp [State.retargetPinion_slu]) (by simp) (by simp)

@[simp] theorem State.retarget_slu :
    s.retarget.slu = (s.slu.retargeted .a (s.targetOf .a)).retargeted .b (s.targetOf .b) := by
  simp [State.retarget, State.retargetPinion_slu]

/-- The notices of a recomputation of both targets (R43, R51). -/
theorem State.retarget_lanes (j : Lane) : s.retarget.lanes.get j =
    { s.lanes.get j with
      notices := (s.lanes.get j).notices |||
        limitBit (decide (s.targetOf .a < s.slu.limit.a)) (decide (s.targetOf .b < s.slu.limit.b))
          (s.lanes.get j) } := by
  have hb : (s.retargetPinion .a).slu.limit.b = s.slu.limit.b := by simp [State.retargetPinion_slu]
  have bit : Notice.limit.bit = 0x08#8 := by decide
  simp only [State.retarget, State.retargetPinion_lanes, State.targetOf_retargetPinion, Pair.get_a, Pair.get_b, hb,
    limitBit, decide_eq_true_eq]
  generalize s.lanes.get j = l
  obtain ⟨role, _⟩ := l
  cases role <;> simp [pinionRole, LaneState.raise_eq, bit] <;> split <;> simp_all

/-- The whole of a recomputation (R38, R42, R43). -/
theorem State.retarget_spec : ∃ lanes, s.retarget =
    { s with
      lanes := lanes
      slu := (s.slu.retargeted .a (s.targetOf .a)).retargeted .b (s.targetOf .b) } :=
  ⟨s.retarget.lanes, by
    have h := s.retarget_slu
    have := s.retarget_pending; have := s.retarget_openReads; have := s.retarget_capture; have := s.retarget_rc
    have := s.retarget_crg; have := s.retarget_rau; have := s.retarget_dwu; have := s.retarget_scc
    have := s.retarget_vlu; have := s.retarget_trc; have := s.retarget_tbu
    cases hs : s.retarget
    simp_all⟩

end Sys2Proof.Machine
end

