-- ==== Sys2Proof/Laws/Checks.lean ====
section
/-! SUPPORT. The laws as checks that can be computed: a state that passes a check obeys the law. -/

namespace Sys2Proof.Machine

theorem forall_pinion {p : Pinion → Prop} : (∀ k, p k) ↔ p .a ∧ p .b :=
  ⟨fun h => ⟨h .a, h .b⟩, fun h k => by cases k <;> simp [h.1, h.2]⟩

/-- The limit chain of pinion k, computed. -/
def chainCheck (s : State) (k : Pinion) : Bool :=
  decide (s.slu.target.get k = s.targetOf k) && decide (s.slu.limit.get k ≤ s.slu.target.get k) &&
    decide (s.slu.iref.get k = clampInt (s.slu.raw.get k) (-(s.slu.limit.get k : Int)) (s.slu.limit.get k)) &&
    s.slu.limited.get k == decide (s.slu.limit.get k < (s.slu.raw.get k).natAbs)

/-- `LimitLaw`, computed. -/
def limitCheck (s : State) : Bool :=
  decide (s.slu.plant ≤ 32767 ∧ s.slu.ceil.a ≤ 32767 ∧ s.slu.ceil.b ≤ 32767 ∧ s.slu.derate ≤ 32767 ∧
    s.slu.inch ≤ 32767 ∧ s.slu.rampStep ≤ 4096 ∧ -3277 ≤ s.slu.offset ∧ s.slu.offset ≤ 3277) &&
    chainCheck s .a && chainCheck s .b

theorem limitLaw_iff (s : State) : LimitLaw s ↔ limitCheck s = true := by
  have hk : ∀ k, LimitChain s k ↔ chainCheck s k = true := by
    intro k
    simp [LimitChain, chainCheck, targetIs_iff, and_assoc]
  simp [LimitLaw, limitCheck, SettingsInRange, forall_pinion, hk, and_assoc]

/-- `OverloadLaw`, computed. -/
def overloadCheck (s : State) : Bool :=
  [Pinion.a, .b].all fun k =>
    decide (s.dwu.ol.get k ≤ s.dwu.watch.q ∧ (s.dwu.ol.get k = s.dwu.watch.q → s.rc.drive = .tripped))

theorem overloadLaw_iff (s : State) : OverloadLaw s ↔ overloadCheck s = true := by
  simp only [OverloadLaw, overloadCheck, forall_pinion, List.all_cons, List.all_nil, Bool.and_eq_true,
    decide_eq_true_eq, and_true]

/-- A gain set with its bounds in order, computed. -/
def GainSet.check (g : GainSet) : Bool := decide (g.uMin ≤ 0 ∧ 0 ≤ g.uMax)

/-- An accumulator value within its bound, computed. -/
def accCheck (x : Int) : Bool := decide (-Config.accBound ≤ x ∧ x ≤ Config.accBound)

/-- `RegulatorLaw`, computed. -/
def regulatorCheck (s : State) : Bool :=
  ([Pinion.a, .b].all fun k => accCheck (s.crg.acc.get k) && (s.crg.applied.get k).check) &&
    (s.crg.staged.all fun g => g.gains.check) && (s.rau.inFlight.all fun c => accCheck c.acc && c.gains.check) &&
    (s.rc.drive.regulating ||
      decide (s.crg.acc = .both 0 ∧ s.crg.sat = .both .zero ∧ s.crg.staged = none ∧ s.rau = .reset ∧
        s.slu.raw = .both 0))

theorem regulatorLaw_iff (s : State) : RegulatorLaw s ↔ regulatorCheck s = true := by
  simp only [RegulatorLaw, regulatorCheck, forall_pinion, accSound, GainSet.sound, accCheck, GainSet.check,
    Bool.and_eq_true, List.all_cons, List.all_nil, decide_eq_true_eq, Bool.or_eq_true, and_assoc, Option.all_eq_true]
  cases s.rc.drive.regulating <;> simp

/-- Where the RAU and the roles stand, computed. -/
def rauCheck (s : State) : Bool :=
  decide (∀ i j : Lane, (s.lanes.get i).role.pinion? ≠ none →
    (s.lanes.get i).role.pinion? = (s.lanes.get j).role.pinion? → i = j) &&
  decide (∀ i : Lane, (s.lanes.get i).selection = .holder → s.lanePending i = false) &&
  decide (s.rau.inFlight = none → s.rau.waiting = []) &&
  decide ((s.rau.entries.map (·.pinion)).Nodup) &&
  decide (s.tbu.phase = .held → s.rau = ⟨none, []⟩ ∧ ∀ i : Lane, (s.lanes.get i).selection ≠ .holder)

theorem rauLaw_of_check (s : State) (h : rauCheck s = true) : RauLaw s := by
  simp only [rauCheck, Bool.and_eq_true, decide_eq_true_eq] at h
  obtain ⟨⟨⟨⟨h1, h2⟩, h3⟩, h4⟩, h5⟩ := h
  exact ⟨fun i j k hi hj => h1 i j (by simp [hi]) (by rw [hi, hj]), h2, h3, h4, h5⟩

/-- `DangerLaw`, computed. -/
def dangerCheck (s : State) : Bool :=
  decide (∀ c : Channel, (s.vlu.channels.get c).state = .danger → s.rc.drive = .tripped)

theorem dangerLaw_iff (s : State) : DangerLaw s ↔ dangerCheck s = true := by simp [DangerLaw, dangerCheck]

/-- The ranges of one channel entry, computed. -/
def ChannelEntry.rangeCheck (c : ChannelEntry) (code : Nat) : Bool :=
  decide (c.runs.a ≤ 15 ∧ c.runs.g ≤ 15 ∧ c.runs.c ≤ 15 ∧ c.runs.cd ≤ 15 ∧ c.suspectRun ≤ 3 ∧
    c.held.natAbs ≤ 32767 ∧ c.subs ≤ c.count ∧ c.count < windowLength code ∧
    c.s1.natAbs ≤ c.count * 32767 ∧ c.s2 ≤ c.count * (32767 * 32767))

/-- `VibrationLaw`, computed. -/
def vibrationCheck (s : State) : Bool :=
  decide (s.vlu.windowCode ≤ 4 ∧ (1 ≤ s.vlu.na ∧ s.vlu.na ≤ 15) ∧ (1 ≤ s.vlu.nd ∧ s.vlu.nd ≤ 15) ∧
    (1 ≤ s.vlu.nc ∧ s.vlu.nc ≤ 15)) &&
  eightIndexes.all fun i => (s.vlu.channels.get i).rangeCheck s.vlu.windowCode

theorem vibrationLaw_iff (s : State) : VibrationLaw s ↔ vibrationCheck s = true := by
  simp [VibrationLaw, vibrationCheck, ChannelEntry.rangeCheck, and_assoc]

/-- `EntryLaw`, computed. -/
def entryCheck (c : Fin 8) (e : NodeEntry) : Bool :=
  decide ((42 + 48 * c.val ≤ e.expected ∧ e.expected ≤ 72 + 48 * c.val) ∧ e.miss ≤ 16 ∧
    (e.miss = 16 ↔ e.state = .lost) ∧ e.parity ≤ 65535 ∧ e.misalign ≤ 65535)

/-- `DiscoveryLaw`, computed. -/
def discoveryCheck (s : State) : Bool :=
  match s.scc.discovery with
  | none => decide (∀ c : Fin 8, (s.scc.nodes.get c).state ≠ .searching)
  | some d => decide (1 ≤ d.count ∧ d.count ≤ 8) &&
    match d.step with
    | .clear _ => decide (d.found = 0 ∧ ∀ c : Fin 8, (s.scc.nodes.get c).state = .absent)
    | .search n rounds => decide (n.val < d.count ∧ d.found = n.val ∧
      (s.scc.nodes.get n).state = (if rounds = 0 then .absent else .searching) ∧
      ∀ c : Fin 8, (c < n → (s.scc.nodes.get c).state = .locked ∨ (s.scc.nodes.get c).state = .lost) ∧
        (n < c → (s.scc.nodes.get c).state = .absent))

theorem discoveryLaw_iff (s : State) : DiscoveryLaw s ↔ discoveryCheck s = true := by
  unfold DiscoveryLaw discoveryCheck
  cases s.scc.discovery with
  | none => simp
  | some d =>
    obtain ⟨count, step, found⟩ := d
    cases step <;> simp only [Bool.and_eq_true, decide_eq_true_eq]

/-- `ChainLaw`, computed. -/
def sensorCheck (s : State) : Bool :=
  (eightIndexes.all fun c => entryCheck c (s.scc.nodes.get c)) && discoveryCheck s &&
    decide (s.scc.lastResult = .running ↔ s.scc.discovery ≠ none)

theorem chainLaw_iff (s : State) : ChainLaw s ↔ sensorCheck s = true := by
  simp only [ChainLaw, sensorCheck, discoveryLaw_iff, EntryLaw, entryCheck, Bool.and_eq_true, List.all_eq_true,
    mem_eightIndexes, true_implies, decide_eq_true_eq, and_assoc]

/-- `TableLaw`, computed. -/
def tableCheck (s : State) : Bool :=
  decide (∀ i : Fin 8, (s.trc.slots.get i).state = .filling →
      s.rc.drive = .tripped ∧ s.trc.current = some i ∧ (s.trc.slots.get i).record.number = s.trc.tripCount) &&
  s.trc.postTimer == s.trc.fillingSlot.isSome &&
  decide (∀ i : Fin 8, (s.trc.slots.get i).state ≠ .free → (s.trc.slots.get i).record.number ≤ s.trc.tripCount) &&
  decide (∀ i j : Fin 8, (s.trc.slots.get i).state ≠ .free → (s.trc.slots.get j).state ≠ .free →
      (s.trc.slots.get i).record.number = (s.trc.slots.get j).record.number → i = j)

theorem tableLaw_iff (s : State) : TableLaw s ↔ tableCheck s = true := by
  simp only [TableLaw, tableCheck, Bool.and_eq_true, decide_eq_true_eq, beq_iff_eq, and_assoc]
  have hb : ∀ x y : Bool, (x = true ↔ y = true) ↔ x = y := fun x y => by cases x <;> cases y <;> simp
  rw [hb]

/-- `Consecutive`, computed. -/
def consecutiveCheck : List Snapshot → Bool
  | [] => true
  | [_] => true
  | x :: y :: rest => y.seq == x.seq + 1 && consecutiveCheck (y :: rest)

theorem consecutive_iff : ∀ l, Consecutive l ↔ consecutiveCheck l = true
  | [] => by simp [Consecutive, consecutiveCheck]
  | [_] => by simp [Consecutive, consecutiveCheck]
  | x :: y :: rest => by simp [Consecutive, consecutiveCheck, consecutive_iff (y :: rest)]

/-- `EndsAt`, computed. -/
def endsCheck (l : List Snapshot) (next : Word16) : Bool := l.getLast?.all fun x => x.seq + 1 == next

theorem endsAt_iff (l : List Snapshot) (next : Word16) : EndsAt l next ↔ endsCheck l next = true := by
  simp [EndsAt, endsCheck, Option.all_eq_true]

/-- One slot's snapshots of pinion k, computed. -/
def slotCheck (s : State) (k : Pinion) (i : Fin 8) : Bool :=
  (s.trc.slots.get i).state == .free ||
    decide (((s.trc.slots.get i).record.pre.get k).length ≤ Config.preSize) &&
      decide (((s.trc.slots.get i).record.post.get k).length ≤ Config.postSize) &&
      consecutiveCheck ((s.trc.slots.get i).record.snapshots k) &&
      (!((s.trc.slots.get i).state == .filling &&
          decide (((s.trc.slots.get i).record.post.get k).length < Config.postSize)) ||
        endsCheck ((s.trc.slots.get i).record.snapshots k) (s.trc.nextSeq.get k))

/-- `SnapshotLaw`, computed. -/
def snapshotCheck (s : State) : Bool :=
  [Pinion.a, .b].all fun k =>
    decide ((s.trc.rings.get k).length ≤ Config.ringSize) && consecutiveCheck (s.trc.rings.get k) &&
      endsCheck (s.trc.rings.get k) (s.trc.nextSeq.get k) && eightIndexes.all (slotCheck s k)

theorem snapshotLaw_iff (s : State) : SnapshotLaw s ↔ snapshotCheck s = true := by
  have hs : ∀ k i, slotCheck s k i = true ↔ ((s.trc.slots.get i).state ≠ .free →
      ((s.trc.slots.get i).record.pre.get k).length ≤ Config.preSize ∧
        ((s.trc.slots.get i).record.post.get k).length ≤ Config.postSize ∧
        Consecutive ((s.trc.slots.get i).record.snapshots k) ∧
        ((s.trc.slots.get i).state = .filling →
          ((s.trc.slots.get i).record.post.get k).length < Config.postSize →
          EndsAt ((s.trc.slots.get i).record.snapshots k) (s.trc.nextSeq.get k))) := by
    intro k i
    simp only [slotCheck, consecutive_iff, endsAt_iff, Bool.or_eq_true, Bool.and_eq_true, beq_iff_eq,
      decide_eq_true_eq, Bool.not_eq_true', Bool.and_eq_false_imp, decide_eq_false_iff_not]
    tauto
  simp only [SnapshotLaw, snapshotCheck, forall_pinion, List.all_cons, List.all_nil, Bool.and_eq_true, and_true,
    decide_eq_true_eq, List.all_eq_true, hs, consecutive_iff, endsAt_iff, and_assoc, mem_eightIndexes, true_implies]

/-- One cursor against the trip table, computed. -/
def cursorOk (s : State) : Cursor → Bool
  | .idle | .gone _ => true
  | .fetching p =>
    decide (p.index < s.trc.count p.slot p.pinion) && p.trip == (s.trc.slots.get p.slot).record.number
  | .fetched p r =>
    ((s.trc.slots.get p.slot).record.snapshots p.pinion)[p.index]? == some r &&
      p.trip == (s.trc.slots.get p.slot).record.number

/-- `CursorLaw`, computed. -/
def cursorCheck (s : State) : Bool := decide (∀ j : Lane, cursorOk s (s.lanes.get j).cursor = true)

theorem cursorLaw_iff (s : State) : CursorLaw s ↔ cursorCheck s = true := by
  simp only [CursorLaw, cursorCheck, decide_eq_true_eq]
  refine forall_congr' fun j => ?_
  cases (s.lanes.get j).cursor <;> simp [cursorOk]

end Sys2Proof.Machine
end

