-- ==== Sys2Proof/Laws/Requests.lean ====
section
/-! SUPPORT. The taking of a request, said once (R160 to R163, R165, R177): which of its ways a request goes, and what the
lanes are after it. -/

namespace Sys2Proof.Machine

variable (s : State) (lane : Lane) (kind : RequestKind) (payload : List Byte) (body : State → State)

theorem State.openSelection_of_ne (h : (s.lanes.get lane).selection ≠ .none) : s.openSelection lane = s := by
  simp [State.openSelection, h]

/-- A request that its lane takes and its role may send reaches its owning block. -/
theorem State.request_takes (h : Takes s lane kind) :
    s.request lane kind payload body = body (s.closeSelection lane (requestFrame kind payload)) := by
  obtain ⟨h1, h2, h3⟩ := h
  have ho : s.openSelection lane = s := s.openSelection_of_ne lane (by simp [h1])
  simp [State.request, ho, h1, State.judge, h2, h3]

/-- READ STATUS and READ IDENT reach their block during the initialisation as well. -/
theorem State.request_takesAlways (h : TakesAlways s lane) (hk : kind.servedInInit = true)
    (hp : ∀ r, kind.permitted r = true) :
    s.request lane kind payload body = body (s.closeSelection lane (requestFrame kind payload)) := by
  obtain ⟨h1, h2⟩ := h
  have ho : s.openSelection lane = s := s.openSelection_of_ne lane (by simp [h1])
  simp [State.request, ho, h1, State.judge, hk, hp]

/-- A selection that takes nothing. -/
theorem State.request_notTaken
    (h : (s.lanes.get lane).selection = .pendingReply ∨ (s.lanes.get lane).selection = .dead) :
    s.request lane kind payload body = s.closeSelection lane (requestFrame kind payload) := by
  have ho : s.openSelection lane = s := s.openSelection_of_ne lane (by rcases h with h | h <;> simp [h])
  rcases h with h | h <;> simp [State.request, ho, h]

/-- INITIALIZING. -/
theorem State.request_initialising (h1 : (s.lanes.get lane).selection = .holder) (h2 : s.tbu.phase = .initialising)
    (hk : kind.servedInInit = false) :
    s.request lane kind payload body =
      (s.closeSelection lane (requestFrame kind payload)).answer lane kind .initializing [] := by
  have ho : s.openSelection lane = s := s.openSelection_of_ne lane (by simp [h1])
  simp [State.request, ho, h1, State.judge, h2, hk]

/-- NOT_PERMITTED. -/
theorem State.request_notPermitted (h1 : (s.lanes.get lane).selection = .holder)
    (h2 : ¬(s.tbu.phase = .initialising ∧ kind.servedInInit = false))
    (h3 : kind.permitted (s.lanes.get lane).role = false) :
    s.request lane kind payload body =
      ((s.closeSelection lane (requestFrame kind payload)).captureRefusal lane kind).answer lane kind .notPermitted
        [] := by
  have ho : s.openSelection lane = s := s.openSelection_of_ne lane (by simp [h1])
  simp only [State.request, ho, h1, if_true, State.judge, State.closeSelection_tbu, State.closeSelection_role, h2,
    if_false, h3]

/-- A request on a lane without a selection starts one. -/
theorem State.request_opens (h : (s.lanes.get lane).selection = .none) :
    s.request lane kind payload body = (s.startSelection lane).request lane kind payload body := by
  have ho : s.openSelection lane = s.startSelection lane := by simp [State.openSelection, h]
  have hn : ((s.startSelection lane).lanes.get lane).selection ≠ .none := by
    simp only [State.startSelection, State.updLane_get, if_true, State.selectionKind]
    split
    · simp
    · split <;> simp
  have ho' := (s.startSelection lane).openSelection_of_ne lane hn
  simp only [State.request, ho, ho']

/-! ### The lanes after it -/

theorem State.closeSelection_get (bytes : List Byte) (j : Lane) : (s.closeSelection lane bytes).lanes.get j =
    if j = lane then { s.lanes.get j with selection := .none, receiver := bytes } else s.lanes.get j := by
  simp [State.closeSelection]

theorem State.answer_get (status : Status) (j : Lane) : (s.answer lane kind status payload).lanes.get j =
    if j = lane then { s.lanes.get j with holder := ⟨kind.code, status, s.rc.drive, payload⟩ }
    else s.lanes.get j := by
  simp [State.answer]

/-- The lanes after a request whose block left them alone. -/
theorem answered_of_quiet {s u : State} {lane : Lane} {kind : RequestKind} {payload : List Byte}
    (h : u.lanes = (s.closeSelection lane (requestFrame kind payload)).lanes) (status : Status) (reply : List Byte) :
    Answered s (u.answer lane kind status reply) lane kind payload ⟨kind.code, status, u.rc.drive, reply⟩ quiet := by
  intro j
  rw [State.answer_get, h, State.closeSelection_get]
  split <;> simp [LaneState.answered, quiet]

/-- The lanes after a request whose block raised notices. -/
theorem answered_of_raised {s u : State} {lane : Lane} {kind : RequestKind} {payload : List Byte}
    {raised : LaneState → Byte}
    (h : ∀ j, u.lanes.get j =
      { (s.closeSelection lane (requestFrame kind payload)).lanes.get j with
        notices := (s.lanes.get j).notices ||| raised (s.lanes.get j) }) (status : Status) (reply : List Byte) :
    Answered s (u.answer lane kind status reply) lane kind payload ⟨kind.code, status, u.rc.drive, reply⟩ raised := by
  intro j
  rw [State.answer_get, h, State.closeSelection_get]
  by_cases hj : j = lane <;> simp [hj, LaneState.answered]

theorem State.captureRefusal_get (j : Lane) : (s.captureRefusal lane kind).lanes.get j =
    { s.lanes.get j with
      notices := (s.lanes.get j).notices |||
        (if s.capture = none ∧ (s.lanes.get j).role = .plant then 0x40 else 0) } := by
  unfold State.captureRefusal
  have hb : Notice.refusal.bit = (0x40 : Byte) := by decide
  cases hc : s.capture with
  | some c => simp
  | none =>
    simp only [State.raisePlant, State.updLanesWhere_get, State.setCapture_lanes, true_and]
    by_cases hr : (s.lanes.get j).role = .plant <;> simp [hr, LaneState.raise_eq, hb]

end Sys2Proof.Machine
end

