-- ==== Sys2Proof/Laws/Terms.lean ====
section
/-! SUPPORT. How the terms of the statements read off the model's own functions: when a request is taken, what the checks
of run control ask, what the packed bytes of replies show. -/

namespace Sys2Proof.Machine

variable (s : State)

/-! ### Requests and lanes -/

/-- `Takes`, computed. -/
def takesCheck (lane : Lane) (kind : RequestKind) : Bool :=
  (s.lanes.get lane).selection == .holder && s.tbu.phase == .working && kind.permitted (s.lanes.get lane).role

theorem takes_iff (lane : Lane) (kind : RequestKind) : Takes s lane kind ↔ takesCheck s lane kind = true := by
  simp [Takes, takesCheck, and_assoc]

/-- A list of at most eight flags packed into a byte. -/
theorem packBits_hasBits (l : List Bool) : HasBits (packBits l) l := by
  induction l with
  | nil => intro i hi; simp [packBits]
  | cons b l ih =>
    intro i hi
    rw [packBits, BitVec.getLsbD_or, BitVec.getLsbD_shiftLeft]
    cases i with
    | zero => cases b <;> simp [flagByte]
    | succ i =>
      have hf : (flagByte b).getLsbD (i + 1) = false := by cases b <;> simp [flagByte]
      rw [hf]
      simpa [hi] using ih i (by omega)

/-- The V_k source byte names the lowest-numbered channel that derates pinion k. -/
theorem State.sourceByte_spec (k : Pinion) : SourceByte s k (s.sourceByte k) := by
  unfold State.sourceByte State.vibCeiling
  cases h : s.vibSource k with
  | none =>
    rw [State.vibSource, List.find?_eq_none] at h
    exact .inl ⟨.inl fun c hc => h c (mem_eightIndexes c) ((derates_iff _ _).mpr hc), by simp⟩
  | some c =>
    rw [Option.isSome_some, if_pos rfl]
    by_cases hD : s.slu.derate = Config.fullScale
    · rw [if_pos hD]
      exact .inl ⟨.inr hD, rfl⟩
    rw [if_neg hD]
    rw [State.vibSource, List.find?_eq_some_iff_append] at h
    obtain ⟨h1, as, bs, hl, hn⟩ := h
    refine .inr ⟨c, hD, (derates_iff _ _).mp h1, fun d hd hd' => ?_, ?_⟩
    · have hs : eightIndexes.Pairwise (· < ·) := by decide
      rw [hl, List.pairwise_append] at hs
      have hm : d ∈ as := by
        rcases List.mem_append.mp (hl ▸ mem_eightIndexes d : d ∈ as ++ c :: bs) with h | h
        · exact h
        · rcases List.mem_cons.mp h with rfl | h
          · exact absurd hd (lt_irrefl _)
          · exact absurd hd (not_lt.mpr ((List.pairwise_cons.mp hs.2.1).1 d h).le)
      simpa [(derates_iff _ _).mpr hd'] using hn d hm
    · dsimp only
      split <;> fin_cases c <;> rfl

theorem Recorder.anyFilling_iff (t : Recorder) : t.anyFilling = true ↔ ∃ i, (t.slots.get i).state = .filling := by
  simp only [Recorder.anyFilling, Eight.toList, List.any_cons, List.any_nil, Bool.or_eq_true, beq_iff_eq]
  constructor
  · rintro (h | h | h | h | h | h | h | h | h)
    exacts [⟨0, h⟩, ⟨1, h⟩, ⟨2, h⟩, ⟨3, h⟩, ⟨4, h⟩, ⟨5, h⟩, ⟨6, h⟩, ⟨7, h⟩, by simp at h]
  · rintro ⟨i, h⟩
    fin_cases i <;> simp_all [Eight.get]

/-! ### The checks of run control -/

theorem rolesHeld_iff : RolesHeld s ↔ s.rolesPresent = true := by
  simp [State.rolesPresent, State.hasRole, RolesHeld, Four.any_eq_true]

theorem chainLocked_iff : ChainLocked s ↔ s.chainComplete = true := by
  simp only [State.chainComplete, ChainLocked, List.all_eq_true, mem_eightIndexes, true_imp_iff, State.guards,
    Bool.or_eq_true, Bool.not_eq_true', beq_iff_eq]
  refine forall_congr' fun c => ?_
  cases (s.vlu.channels.get c).config.enabled <;> cases (s.vlu.channels.get c).config.tripOnLoss <;> simp

theorem bothReady_iff : BothReady s ↔ (s.rc.startable .a && s.rc.startable .b) = true := by
  have hk : ∀ k, s.rc.startable k = true ↔
      ((∃ l, s.rc.latest.get k = some l ∧ l.ready = true) ∧ s.rc.silent.get k = false) := by
    intro k
    unfold RunControl.startable latestFlag
    cases h : s.rc.latest.get k <;> simp
  rw [Bool.and_eq_true, hk, hk]
  exact forall_pinion

theorem recordFilling_iff : RecordFilling s ↔ s.trc.fillingSlot.isSome = true := by
  unfold Recorder.fillingSlot RecordFilling
  cases s.trc.current with
  | none => simp
  | some i => by_cases h : (s.trc.slots.get i).state = .filling <;> simp [h]

theorem atRest_iff (k : Pinion) : AtRest s k ↔ s.atRest k = true := by
  simp only [State.atRest, AtRest, Bool.or_eq_true, Bool.and_eq_true, decide_eq_true_eq]
  cases h : s.rc.latest.get k <;> simp [latestCurrent, magnitude]

theorem latestFlag_iff (r : Option LatestSample) (f : LatestSample → Bool) :
    latestFlag r f = true ↔ ∃ l, r = some l ∧ f l = true := by
  cases r <;> simp [latestFlag]

theorem causeActive_iff : CauseActive s ↔ s.activeCause = true := by
  have hp : ∀ p : Pinion → Prop, (∃ k, p k) ↔ p .a ∨ p .b := fun p =>
    ⟨fun ⟨k, h⟩ => by cases k <;> simp [h], fun h => h.elim (fun h => ⟨_, h⟩) fun h => ⟨_, h⟩⟩
  simp only [CauseActive, State.activeCause, hp, Bool.or_eq_true, List.any_eq_true, mem_eightIndexes, true_and,
    beq_iff_eq, State.guards, Bool.and_eq_true, DriveWatch.loaded, decide_eq_true_eq, and_assoc, or_assoc,
    latestFlag_iff]
  rfl

theorem inRegulation_iff : InRegulation s ↔ s.rc.drive.regulating = true := by
  unfold InRegulation
  cases s.rc.drive <;> simp [DriveState.regulating]

/-! ### Ends of selections and of windows -/

theorem State.closeSelection_eq (lane : Lane) (bytes : List Byte) :
    s.closeSelection lane bytes = s.selectionEnded lane bytes := rfl

/-- PENDING_SELECTION ends a selection answered with PENDING or cut by a reset, and changes nothing in one answered from the
holder (R162, R164). -/
theorem State.endPending_spec (lane : Lane) (bytes : List Byte) (h : (s.lanes.get lane).selection ≠ .none) :
    s.endPending lane bytes =
      if (s.lanes.get lane).selection = .holder then s else s.selectionEnded lane bytes := by
  unfold State.endPending
  rw [s.openSelection_of_ne lane h]
  cases hs : (s.lanes.get lane).selection <;> simp_all [State.closeSelection_eq]

/-- The round without position c's window keeps the other windows, and has ended when none is left (R97). -/
theorem Round.close_shut (r : Round) (c : Fin 8) : WindowShut r c (r.close c) := by
  have hq : ∀ p, (if r.search = some c then none else r.search) = some p ↔ r.search = some p ∧ p ≠ c := by
    intro p
    by_cases h : r.search = some c
    · simp +contextual [h, eq_comm]
    · simp only [h, if_false, iff_self_and]
      exact fun hp hc => h (hc ▸ hp)
  have hn : (if r.search = some c then none else r.search) = none ↔ ∀ p, r.search = some p → p = c := by
    rw [Option.eq_none_iff_forall_ne_some]
    exact forall_congr' fun p => by rw [Ne, hq]; tauto
  unfold Round.close Round.ofWindows
  refine ⟨?_, fun r' h => ?_⟩
  · rw [ite_eq_left_iff, hn]
    simp only [List.filter_eq_nil_iff, bne_iff_ne, ne_eq, not_not, reduceCtorEq, imp_false, or_imp, forall_and]
  · obtain ⟨-, h⟩ := Option.ite_none_left_eq_some.mp h
    cases h
    exact ⟨List.filter_sublist, by simp, hq⟩

end Sys2Proof.Machine
end

