-- ==== Sys2Proof/Laws/Entry.lean ====
section
/-! SUPPORT. What leaving regulation and trip entry do, said once (R9, R15, R63). -/

namespace Sys2Proof.Machine

variable (s : State)

@[simp] theorem Regulators.applyStaged_applied (r : Regulators) (k : Pinion) :
    r.applyStaged.applied.get k = r.settled k := by
  obtain ⟨acc, sat, ⟨x, y⟩, staged, last⟩ := r
  cases staged with
  | none => rfl
  | some g =>
    obtain ⟨g, ⟨ma, mb⟩⟩ := g
    cases ma <;> cases mb <;> cases k <;> rfl

@[simp] theorem Regulators.applyStaged_lastSet (r : Regulators) : r.applyStaged.lastSet = r.lastSet := by
  obtain ⟨acc, sat, ⟨x, y⟩, staged, last⟩ := r
  cases staged with
  | none => rfl
  | some g =>
    obtain ⟨g, ⟨ma, mb⟩⟩ := g
    cases ma <;> cases mb <;> rfl

/-- The regulators at rest (R9, R63). -/
theorem Regulators.rest_eq (r : Regulators) : r.rest =
    { acc := .both 0
      sat := .both .zero
      applied := ⟨r.settled .a, r.settled .b⟩
      staged := none
      lastSet := r.lastSet } := by
  have hl := r.applyStaged_lastSet
  have ha := r.applyStaged_applied .a
  have hb := r.applyStaged_applied .b
  simp only [Pair.get_a, Pair.get_b] at ha hb
  have hs : r.applyStaged.staged = none := rfl
  rw [← ha, ← hb, ← hl]
  unfold Regulators.rest
  rw [show (⟨r.applyStaged.applied.a, r.applyStaged.applied.b⟩ : Pair GainSet) = r.applyStaged.applied from rfl, ← hs]

theorem clampInt_zero (l : Nat) : clampInt 0 (-(l : Int)) l = 0 := by
  unfold clampInt
  split
  · omega
  · split <;> omega

theorem ShareLimit.setRaw_zero (u : ShareLimit) :
    (u.setRaw .a 0).setRaw .b 0 = { u with raw := .both 0, iref := .both 0, limited := .both false } := by
  obtain ⟨_, _, ⟨_, _⟩, _, _, _, _, _, _, ⟨la, lb⟩, ⟨_, _⟩, ⟨_, _⟩⟩ := u
  simp [ShareLimit.setRaw, ShareLimit.reclamp, Pair.set, Pair.get, clampInt_zero, Pair.both]

@[simp] theorem State.enterRest_rc (d : DriveState) :
    (s.enterRest d).rc = { s.rc with drive := d, stopTimer := none } := by
  simp [State.enterRest]

@[simp] theorem State.enterRest_crg (d : DriveState) : (s.enterRest d).crg = s.crg.rest := by
  simp [State.enterRest]

@[simp] theorem State.enterRest_rau (d : DriveState) : (s.enterRest d).rau = .reset := by
  simp [State.enterRest]

theorem State.enterRest_slu (d : DriveState) (hd : d.regulating = false) :
    (s.enterRest d).slu = s.slu.atRest := by
  simp only [State.enterRest, State.retarget_slu, State.updSlu_slu, State.updRau_slu, State.updCrg_slu,
    State.updRc_slu]
  rw [State.targetOf_eq_zero _ _ (by simpa using hd), State.targetOf_eq_zero _ _ (by simpa using hd)]
  rw [ShareLimit.setRaw_zero]
  obtain ⟨_, _, ⟨_, _⟩, _, _, _, _, _, ⟨_, _⟩, ⟨la, lb⟩, ⟨_, _⟩, ⟨_, _⟩⟩ := s.slu
  cases la <;> cases lb <;>
    simp [ShareLimit.retargeted, ShareLimit.atRest, ShareLimit.setTarget, ShareLimit.setLimit, ShareLimit.reclamp,
      Pair.both, Pair.set, Pair.get, clampInt]

/-- The LIMIT notices of the fall to 0 (R51). -/
theorem State.enterRest_lanes (d : DriveState) (hd : d.regulating = false) (j : Lane) :
    (s.enterRest d).lanes.get j =
      { s.lanes.get j with
        notices := (s.lanes.get j).notices |||
          limitBit (decide (0 < s.slu.limit.a)) (decide (0 < s.slu.limit.b)) (s.lanes.get j) } := by
  simp only [State.enterRest, State.retarget_lanes]
  rw [State.targetOf_eq_zero _ _ (by simpa using hd), State.targetOf_eq_zero _ _ (by simpa using hd)]
  simp [ShareLimit.setRaw_zero]

end Sys2Proof.Machine
end

