-- ==== Sys2Proof/Laws/TripEntry.lean ====
section
/-! SUPPORT. Trip entry, said once (R15, R16, R139 to R141): `State.enterTrip_spec` says everything it can do. -/

namespace Sys2Proof.Machine

variable (s : State)

/-! ### The choice of a slot -/

theorem Recorder.chooseSlot_some {t : Recorder} {i : Fin 8} (h : t.chooseSlot = some i) : Chosen t i := by
  unfold Recorder.chooseSlot at h
  split at h
  · rename_i j hj
    cases h
    left
    rw [List.find?_eq_some_iff_append] at hj
    obtain ⟨hf, as, bs, hl, hn⟩ := hj
    refine ⟨by simpa using hf, fun j hj => ?_⟩
    have hm : j ∈ as := by
      have hall : ∀ i j : Fin 8, ∀ as bs : List (Fin 8), j < i → eightIndexes = as ++ i :: bs → j ∈ as := by
        intro i j as bs hji he
        have hs : eightIndexes.Pairwise (· < ·) := by decide
        rw [he, List.pairwise_append] at hs
        have hj : j ∈ as ++ i :: bs := he ▸ mem_eightIndexes j
        rcases List.mem_append.mp hj with h | h
        · exact h
        · rcases List.mem_cons.mp h with rfl | h
          · exact absurd hji (lt_irrefl _)
          · have := (List.pairwise_cons.mp hs.2.1).1 j h
            exact absurd hji (not_lt.mpr this.le)
      exact hall _ _ _ _ hj hl
    simpa using hn j hm
  · rename_i hn
    right
    rw [List.find?_eq_none] at hn
    refine ⟨fun j => by simpa using hn j (mem_eightIndexes j), ?_⟩
    clear hn
    have key : ∀ (l : List (Fin 8)) (best : Option (Fin 8)) (i : Fin 8),
        (∀ b, best = some b → (t.slots.get b).state = .read) →
        l.foldl (fun best i =>
          if (t.slots.get i).state = .read then
            match best with
            | none => some i
            | some j => if (t.slots.get i).record.number < (t.slots.get j).record.number then some i else some j
          else best) best = some i →
        (t.slots.get i).state = .read ∧
          (∀ b, best = some b → (t.slots.get i).record.number ≤ (t.slots.get b).record.number) ∧
          ∀ j ∈ l, (t.slots.get j).state = .read → (t.slots.get i).record.number ≤ (t.slots.get j).record.number := by
      intro l
      induction l with
      | nil =>
        intro best i hb h
        simp only [List.foldl_nil] at h
        exact ⟨hb i h, fun b hb' => by simp_all, by simp⟩
      | cons x l ih =>
        intro best i hb h
        rw [List.foldl_cons] at h
        by_cases hx : (t.slots.get x).state = .read
        · simp only [hx, if_true] at h
          cases best with
          | none =>
            obtain ⟨h1, h2, h3⟩ := ih _ i (fun b hb' => by simp only [Option.some.injEq] at hb'; exact hb' ▸ hx) h
            refine ⟨h1, by simp, fun j hj hr => ?_⟩
            rcases List.mem_cons.mp hj with rfl | hj
            · exact h2 _ rfl
            · exact h3 j hj hr
          | some b =>
            dsimp only at h
            by_cases hlt : (t.slots.get x).record.number < (t.slots.get b).record.number
            · rw [if_pos hlt] at h
              obtain ⟨h1, h2, h3⟩ := ih _ i (by rintro b' hb'; cases hb'; exact hx) h
              refine ⟨h1, fun b' hb' => ?_, fun j hj hr => ?_⟩
              · cases hb'
                exact (h2 _ rfl).trans hlt.le
              · rcases List.mem_cons.mp hj with rfl | hj
                · exact h2 _ rfl
                · exact h3 j hj hr
            · rw [if_neg hlt] at h
              obtain ⟨h1, h2, h3⟩ := ih _ i hb h
              refine ⟨h1, h2, fun j hj hr => ?_⟩
              rcases List.mem_cons.mp hj with rfl | hj
              · exact (h2 _ rfl).trans (Nat.le_of_not_lt hlt)
              · exact h3 j hj hr
        · simp only [hx, if_false] at h
          obtain ⟨h1, h2, h3⟩ := ih _ i hb h
          refine ⟨h1, h2, fun j hj hr => ?_⟩
          rcases List.mem_cons.mp hj with rfl | hj
          · exact absurd hr hx
          · exact h3 j hj hr
    obtain ⟨h1, -, h3⟩ := key eightIndexes none i (by simp) h
    exact ⟨h1, fun j hr => h3 j (mem_eightIndexes j) hr⟩

theorem Recorder.chooseSlot_none {t : Recorder} (h : t.chooseSlot = none) (j : Fin 8) :
    (t.slots.get j).state ≠ .free ∧ (t.slots.get j).state ≠ .read := by
  unfold Recorder.chooseSlot at h
  split at h
  · cases h
  · rename_i hn
    rw [List.find?_eq_none] at hn
    refine ⟨by simpa using hn j (mem_eightIndexes j), fun hr => ?_⟩
    have key : ∀ (l : List (Fin 8)) (best : Option (Fin 8)),
        l.foldl (fun best i =>
          if (t.slots.get i).state = .read then
            match best with
            | none => some i
            | some j => if (t.slots.get i).record.number < (t.slots.get j).record.number then some i else some j
          else best) best = none → best = none ∧ j ∉ l := by
      intro l
      induction l with
      | nil => intro best h; simpa using h
      | cons x l ih =>
        intro best h
        rw [List.foldl_cons] at h
        obtain ⟨h1, h2⟩ := ih _ h
        by_cases hx : (t.slots.get x).state = .read
        · simp only [hx, if_true] at h1
          cases best with
          | none => cases h1
          | some b =>
            dsimp only at h1
            split at h1 <;> cases h1
        · simp only [hx, if_false] at h1
          refine ⟨h1, fun hm => ?_⟩
          rcases List.mem_cons.mp hm with rfl | hm
          · exact hx hr
          · exact h2 hm
    exact (key _ _ h).2 (mem_eightIndexes j)

/-! ### The table's part -/

theorem State.loseCursors_get (i : Fin 8) (j : Lane) :
    (s.loseCursors i).lanes.get j = { s.lanes.get j with cursor := (s.lanes.get j).cursor.lose i } := by
  simp [State.loseCursors]

/-- Everything the recorder's part of a trip entry can do (R139 to R141). -/
theorem State.recordTrip_spec (cause : Cause) (value limit : Nat) :
    Recorded s (s.recordTrip cause value limit) cause value limit [] ∧
      (s.recordTrip cause value limit).trc.rings = s.trc.rings ∧
      (s.recordTrip cause value limit).trc.nextSeq = s.trc.nextSeq ∧
      (s.recordTrip cause value limit).trc.prevCounter = s.trc.prevCounter ∧
      ∀ j, (s.recordTrip cause value limit).lanes.get j =
        { s.lanes.get j with
          cursor :=
            match (s.recordTrip cause value limit).trc.current with
            | some i => (s.lanes.get j).cursor.lose i
            | none => (s.lanes.get j).cursor } := by
  unfold State.recordTrip
  by_cases hc : s.trc.tripCount < Config.countMax
  · rw [if_pos hc]
    dsimp only
    split
    · rename_i i hi
      refine ⟨.inl ⟨i, hc, Recorder.chooseSlot_some (t := s.trc) hi, rfl, rfl, rfl, rfl, rfl, rfl⟩, rfl, rfl, rfl,
        fun j => ?_⟩
      simp [State.openSlot, State.loseCursors_get]
    · rename_i hn
      have hm : countAfter s.trc.tripCount = s.trc.tripCount + 1 := if_pos hc
      refine ⟨.inr ⟨.inr fun j => Recorder.chooseSlot_none (t := s.trc) hn j, rfl, hm.symm, rfl, rfl, ?_, rfl⟩, rfl, rfl,
        rfl, fun j => rfl⟩
      rw [hm]
      rfl
  · rw [if_neg hc]
    have hm : countAfter s.trc.tripCount = s.trc.tripCount := if_neg hc
    refine ⟨.inr ⟨.inl (Nat.le_of_not_lt hc), rfl, hm.symm, rfl, rfl, ?_, rfl⟩, rfl, rfl, rfl, fun j => rfl⟩
    rw [hm]
    rfl

/-! ### The records of the entry -/

/-- What the ABANDONED records of a trip entry do (R75, R140). -/
theorem abandonAll_spec (l : List Entry) (hl : (l.map (·.pinion)).Nodup) (s : State) :
    ∃ trc, l.foldl State.abandonAtTrip s = { s with trc := trc } ∧
      trc.slots = s.trc.slots ∧ trc.tripCount = s.trc.tripCount ∧ trc.current = s.trc.current ∧
      trc.overflow = s.trc.overflow ∧ trc.unrecorded = s.trc.unrecorded ∧ trc.postTimer = s.trc.postTimer ∧
      (∀ e ∈ l, RingGains s { s with trc := trc } e.pinion (lostRecord s e false) e.counter) ∧
      ∀ k, (∀ e ∈ l, e.pinion ≠ k) → RingStays s { s with trc := trc } k := by
  induction l generalizing s with
  | nil => exact ⟨s.trc, rfl, rfl, rfl, rfl, rfl, rfl, rfl, by simp, fun k _ => ⟨rfl, rfl, rfl⟩⟩
  | cons e l ih =>
    rw [List.map_cons, List.nodup_cons] at hl
    obtain ⟨trc, h, h1, h2, h3, h4, h5, h6, hg, hk⟩ := ih hl.2 (s.abandonAtTrip e)
    have hne : ∀ x ∈ l, x.pinion ≠ e.pinion := fun x hx he => hl.1 (he ▸ List.mem_map_of_mem hx)
    have hother : ∀ k, k ≠ e.pinion → RingStays s (s.abandonAtTrip e) k := by
      intro k hk'
      refine ⟨?_, ?_, ?_⟩ <;>
        simp [State.abandonAtTrip, State.writeEntryRecord, Recorder.push, Pair.get_set, hk']
    refine ⟨trc, h, h1, h2, h3, h4, h5, h6, fun x hx => ?_, fun k hkl => ?_⟩
    · rcases List.mem_cons.mp hx with rfl | hx
      · obtain ⟨r1, r2, r3⟩ := hk x.pinion fun y hy => hne y hy
        refine ⟨r1.trans ?_, r2.trans ?_, r3.trans ?_⟩ <;>
          simp [State.abandonAtTrip, State.writeEntryRecord, Recorder.push, Recorder.complete, State.abandonedRecord,
            State.draft, lostRecord, Config.ringSize]
      · obtain ⟨r1, r2, r3⟩ := hg x hx
        obtain ⟨q1, q2, q3⟩ := hother x.pinion (hne x hx)
        refine ⟨?_, r2.trans (by rw [q2]), r3⟩
        rw [r1, q1]
        congr 2
        simp only [lostRecord, q2, q3]
        simp
    · obtain ⟨r1, r2, r3⟩ := hk k fun x hx => hkl x (List.mem_cons_of_mem _ hx)
      obtain ⟨q1, q2, q3⟩ := hother k (fun h => hkl e List.mem_cons_self h.symm)
      exact ⟨r1.trans q1, r2.trans q2, r3.trans q3⟩

/-- What all the records of a trip entry do: the ABANDONED ones, then the TRIGGER record (R75, R77, R140). -/
theorem entryRecords_spec (l : List Entry) (trigger : Option Entry)
    (hl : ((trigger.toList ++ l).map (·.pinion)).Nodup) (s : State) :
    ∃ trc, (l.foldl State.abandonAtTrip s).writeTrigger trigger = { s with trc := trc } ∧
      trc.slots = s.trc.slots ∧ trc.tripCount = s.trc.tripCount ∧ trc.current = s.trc.current ∧
      trc.overflow = s.trc.overflow ∧ trc.unrecorded = s.trc.unrecorded ∧ trc.postTimer = s.trc.postTimer ∧
      (∀ e ∈ l, RingGains s { s with trc := trc } e.pinion (lostRecord s e false) e.counter) ∧
      (∀ e, trigger = some e → RingGains s { s with trc := trc } e.pinion (lostRecord s e true) e.counter) ∧
      ∀ k, (∀ e ∈ l, e.pinion ≠ k) → (∀ e, trigger = some e → e.pinion ≠ k) →
        RingStays s { s with trc := trc } k := by
  cases trigger with
  | none =>
    obtain ⟨trc, h, h1, h2, h3, h4, h5, h6, hg, hk⟩ := abandonAll_spec l (by simpa using hl) s
    exact ⟨trc, h, h1, h2, h3, h4, h5, h6, hg, by simp, fun k hkl _ => hk k hkl⟩
  | some x =>
    have hl' : (∀ e ∈ l, e.pinion ≠ x.pinion) ∧ (l.map (·.pinion)).Nodup := by simpa using hl
    obtain ⟨trc, h, h1, h2, h3, h4, h5, h6, hg, hk⟩ := abandonAll_spec l hl'.2 s
    have hother : ∀ k, k ≠ x.pinion → RingStays ({ s with trc := trc } : State)
        (({ s with trc := trc } : State).writeTrigger (some x)) k := by
      intro k hk'
      refine ⟨?_, ?_, ?_⟩ <;>
        simp [State.writeTrigger, State.writeEntryRecord, Recorder.push, Pair.get_set, hk']
    refine ⟨(({ s with trc := trc } : State).writeTrigger (some x)).trc, by rw [h]; rfl, h1, h2, h3, h4, h5, h6,
      fun e he => ?_, fun e he => ?_, fun k hkl hkx => ?_⟩
    · obtain ⟨r1, r2, r3⟩ := hg e he
      obtain ⟨q1, q2, q3⟩ := hother e.pinion (hl'.1 e he)
      exact ⟨q1.trans r1, q2.trans r2, q3.trans r3⟩
    · cases he
      obtain ⟨r1, r2, r3⟩ := hk x.pinion hl'.1
      refine ⟨?_, ?_, ?_⟩
      · simp only at r1 r2 r3
        simp [State.writeTrigger, State.writeEntryRecord, Recorder.push, Recorder.complete, State.draft, lostRecord,
          Config.ringSize, r1, r2, r3]
      · simp only at r2
        simp [State.writeTrigger, State.writeEntryRecord, Recorder.push, r2]
      · simp [State.writeTrigger, State.writeEntryRecord, Recorder.push]
    · obtain ⟨r1, r2, r3⟩ := hk k hkl
      obtain ⟨q1, q2, q3⟩ := hother k (fun h => hkx x rfl h.symm)
      exact ⟨q1.trans r1, q2.trans r2, q3.trans r3⟩

/-- What the replies of abandoned computations do: only holders change (R75). -/
theorem replyAll_spec (trip : Bool) (l : List Entry) (s : State) :
    ∃ lanes, l.foldl (State.replyAbandoned trip) s = { s with lanes := lanes } ∧
      ∀ j, lanes.get j = { s.lanes.get j with
        holder := ((l.filter fun e => (s.lanes.get j).role == pinionRole e.pinion).getLast?.map fun e =>
          (⟨0x10, .ok, s.rc.drive, s.sampleReply e.pinion 0 ⟨e.demandIgnored, false, false, false, trip⟩⟩ :
            Reply)).getD (s.lanes.get j).holder } := by
  induction l generalizing s with
  | nil => exact ⟨s.lanes, rfl, fun j => rfl⟩
  | cons e l ih =>
    obtain ⟨lanes, h, hj⟩ := ih (s.replyAbandoned trip e)
    refine ⟨lanes, h, fun j => ?_⟩
    rw [hj]
    have hr : ((s.replyAbandoned trip e).lanes.get j).role = (s.lanes.get j).role := by
      simp [State.replyAbandoned]
    have hs : ∀ k f, (s.replyAbandoned trip e).sampleReply k 0 f = s.sampleReply k 0 f := fun _ _ => rfl
    rw [hr, List.filter_cons]
    simp only [hs]
    have hd : (s.replyAbandoned trip e).rc.drive = s.rc.drive := rfl
    rw [hd]
    by_cases hp : (s.lanes.get j).role = pinionRole e.pinion
    · simp only [hp, beq_self_eq_true, if_true]
      have hl : (s.replyAbandoned trip e).lanes.get j = { s.lanes.get j with
          holder := ⟨0x10, .ok, s.rc.drive, s.sampleReply e.pinion 0 ⟨e.demandIgnored, false, false, false, trip⟩⟩ } := by
        simp [State.replyAbandoned, State.answerPinion, hp, RequestKind.code]
      rw [hl]
      cases hf : (l.filter fun e' => pinionRole e.pinion == pinionRole e'.pinion) with
      | nil => simp [hp]
      | cons x xs => simp [List.getLast?_cons, hp]
    · have hp' : ((s.lanes.get j).role == pinionRole e.pinion) = false := by simpa using hp
      simp only [hp']
      have hl : (s.replyAbandoned trip e).lanes.get j = s.lanes.get j := by
        simp [State.replyAbandoned, State.answerPinion, hp]
      rw [hl]
      rfl

theorem find_eq_getLast_filter {α : Type} (p : α → Bool) (l : List α) (h : (l.filter p).length ≤ 1) :
    l.find? p = (l.filter p).getLast? := by
  rw [← List.head?_filter]
  match hl : l.filter p with
  | [] => rfl
  | [x] => rfl
  | x :: y :: r => simp [hl] at h

theorem filter_pinion_length (l : List Entry) (hl : (l.map (·.pinion)).Nodup) (r : Role) :
    (l.filter fun e => r == pinionRole e.pinion).length ≤ 1 := by
  induction l with
  | nil => simp
  | cons e l ih =>
    rw [List.map_cons, List.nodup_cons] at hl
    rw [List.filter_cons]
    split
    · rename_i he
      have : (l.filter fun e => r == pinionRole e.pinion) = [] := by
        rw [List.filter_eq_nil_iff]
        intro x hx hr
        refine hl.1 (List.mem_map.mpr ⟨x, hx, ?_⟩)
        have h1 : r = pinionRole e.pinion := by simpa using he
        have h2 : r = pinionRole x.pinion := by simpa using hr
        rw [h1] at h2
        cases hp : e.pinion <;> cases hq : x.pinion <;> simp_all [pinionRole]
      simp [this]
    · exact ih hl.2

/-- Everything trip entry can do (R15). -/
theorem State.enterTrip_spec (trigger : Option Entry)
    (hx : ((trigger.toList ++ s.rau.entries).map (·.pinion)).Nodup) (cause : Cause) (value limit : Nat) :
    TripEntered s (s.enterTrip cause value limit trigger) cause value limit trigger [] ∧
      ∀ j, (s.enterTrip cause value limit trigger).lanes.get j =
        (s.lanes.get j).tripped s (s.enterTrip cause value limit trigger).trc.current := by
  have hn : (s.rau.entries.map (·.pinion)).Nodup := by
    rw [List.map_append, List.nodup_append] at hx
    exact hx.2.1
  obtain ⟨trc, h1, a1, a2, a3, a4, a5, a6, hg, hs, hk⟩ := entryRecords_spec s.rau.entries trigger hx s
  obtain ⟨hrec, r1, r2, r3, hl⟩ := State.recordTrip_spec ({ s with trc := trc } : State) cause value limit
  obtain ⟨lanes, h2, hr⟩ := replyAll_spec true s.rau.entries
    (((({ s with trc := trc } : State).recordTrip cause value limit).enterRest .tripped).updRc
      fun r => { r with ack := .both false })
  have hT : s.enterTrip cause value limit trigger = (State.raiseAll (State.raiseAll
      { (((({ s with trc := trc } : State).recordTrip cause value limit).enterRest .tripped).updRc
        fun r => { r with ack := .both false }) with lanes := lanes } .trip) .state) := by
    unfold State.enterTrip
    dsimp only
    rw [h1, h2]
  rw [hT]
  have urole : ∀ j, ((({ s with trc := trc } : State).recordTrip cause value limit).lanes.get j).role =
      (s.lanes.get j).role := fun j => by simp
  have hd : DriveState.tripped.regulating = false := rfl
  refine ⟨⟨?_, ?_, ?_, ?_, ?_, ?_, ?_, ?_, ?_⟩, fun j => ?_⟩
  · simp
  · simp [State.enterRest_slu, hd, ShareLimit.atRest]
  · simp [Regulators.rest_eq, Regulators.settled]
  · simp [Rau.reset]
  · simp
  · intro e he
    obtain ⟨g1, g2, g3⟩ := hg e he
    refine ⟨?_, ?_, ?_⟩
    · simpa [r1] using g1
    · simpa [r2] using g2
    · simpa [r3] using g3
  · intro e he
    obtain ⟨g1, g2, g3⟩ := hs e he
    refine ⟨?_, ?_, ?_⟩
    · simpa [r1] using g1
    · simpa [r2] using g2
    · simpa [r3] using g3
  · intro k hkl hkx
    obtain ⟨g1, g2, g3⟩ := hk k hkl hkx
    refine ⟨?_, ?_, ?_⟩
    · simpa [r1] using g1
    · simpa [r2] using g2
    · simpa [r3] using g3
  · simp only [Recorded, Chosen, TakesSlot, Overflows, State.raiseAll_trc, State.updRc_trc, State.enterRest_trc] at hrec ⊢
    simpa only [a1, a2, a3, a4, a5, a6] using hrec
  · simp only [State.raiseAll_get, State.raiseAll_trc, State.enterRest_trc, State.updRc_trc]
    rw [hr j]
    simp only [State.updRc_lanes, State.enterRest_lanes _ _ hd, hl j]
    have e1 : (Notice.trip.bit : Byte) = 0x01 := by decide
    have e2 : (Notice.state.bit : Byte) = 0x80 := by decide
    simp only [LaneState.raise_eq, e1, e2, LaneState.tripped]
    have hrest : ∀ k f, ((({ s with trc := trc } : State).recordTrip cause value limit).enterRest .tripped |>.updRc
        fun r => { r with ack := .both false }).sampleReply k 0 f =
        [0, 0, 0, 0, 0, 0, packBits [false, false, f.ignored, f.satHi, f.satLo, f.newGains, f.tripped]] := by
      intro k f
      simp only [State.sampleReply, State.limitedFlag, State.updRc_slu, State.enterRest_slu _ _ hd, ShareLimit.atRest]
      cases k <;> simp [int16, nat16, be16]
    simp only [hrest]
    have hfind := find_eq_getLast_filter (fun e => (s.lanes.get j).role == pinionRole e.pinion) s.rau.entries
      (filter_pinion_length _ hn _)
    rw [hfind]
    have hbits : ∀ b, packBits [false, false, b, false, false, false, true] = if b then (0x44 : Byte) else 0x40 := by
      decide
    simp only [hbits]
    simp only [State.recordTrip_slu]
    congr 1
    · cases (s.rau.entries.filter fun e => (s.lanes.get j).role == pinionRole e.pinion).getLast? <;> simp [lostReply]
    · have hassoc : ∀ n b : Byte, n ||| b ||| 1#8 ||| 128#8 = n ||| (129#8 ||| b) := by
        intro n b
        rw [show (129#8 : Byte) = 1#8 ||| 128#8 by decide]
        ac_rfl
      exact hassoc _ _

end Sys2Proof.Machine
end

