-- ==== Sys2Proof/Laws/Operations.lean ====
section
/-! SUPPORT. What the shared operations do, each said once in the terms of Safety: a move of the drive state, later
causes, the writing of a record, the start of a computation, the split, the SAMPLE reply. -/

namespace Sys2Proof.Machine

variable (s : State)

/-! ### The limit chain -/

/-- A target that the limit does not exceed is only stored (R43). -/
theorem ShareLimit.retargeted_up (u : ShareLimit) (k : Pinion) (n : Nat) (h : u.limit.get k ≤ n) :
    u.retargeted k n = { u with target := u.target.set k n } := by
  unfold ShareLimit.retargeted
  rw [if_neg (by omega)]
  rfl

/-- What the limit law says of the limit and the target of pinion k (R38, R43). -/
theorem LimitLaw.target {s : State} (h : LimitLaw s) (k : Pinion) :
    s.slu.limit.get k ≤ s.targetOf k ∧ s.slu.target.get k = s.targetOf k := by
  obtain ⟨h1, h2, -⟩ := h.2 k
  rw [targetIs_iff] at h1
  exact ⟨h1 ▸ h2, h1⟩

/-- The references and limited states are those of the raw splits and the limits (R48). -/
def ShareLimit.clamped (u : ShareLimit) : Prop :=
  ∀ k, u.iref.get k = clampInt (u.raw.get k) (-(u.limit.get k : Int)) (u.limit.get k) ∧
    u.limited.get k = decide (u.limit.get k < (u.raw.get k).natAbs)

theorem LimitLaw.clamped {s : State} (h : LimitLaw s) : s.slu.clamped := fun k => (h.2 k).2.2

theorem ShareLimit.retargeted_clamped (u : ShareLimit) (k : Pinion) (n : Nat) (h : u.clamped) :
    (u.retargeted k n).clamped := by
  intro j
  rw [ShareLimit.retargeted_iref, ShareLimit.retargeted_limited, ShareLimit.retargeted_limit, ShareLimit.retargeted_raw]
  have hj := h j
  by_cases hn : n < u.limit.get k
  · rw [if_pos hn, if_pos hn, Nat.min_eq_right hn.le]
    by_cases hk : j = k
    · subst hk
      simp
    · cases j <;> cases k
      · exact absurd rfl hk
      · exact hj
      · exact hj
      · exact absurd rfl hk
  · rw [if_neg hn, if_neg hn, Nat.min_eq_left (Nat.le_of_not_lt hn), Pair.set_get]
    exact hj

/-- The recomputation of both targets (R38, R42, R43, R48, R51). -/
theorem State.retarget_retargeted (h : s.slu.clamped) :
    Retargeted s s.retarget ∧ OnlyNotices s s.retarget (limitFalls s s.retarget) := by
  have ht : ∀ k, s.retarget.slu.target.get k = s.targetOf k := by
    intro k
    rw [State.retarget_slu]
    cases k <;> simp
  have hl : ∀ k, s.retarget.slu.limit.get k = min (s.slu.limit.get k) (s.targetOf k) := by
    intro k
    rw [State.retarget_slu]
    cases k <;> simp
  have hc : s.retarget.slu.clamped := by
    rw [State.retarget_slu]
    exact ShareLimit.retargeted_clamped _ _ _ (ShareLimit.retargeted_clamped _ _ _ h)
  have hu : ∀ k, s.retarget.targetOf k = s.targetOf k := fun k => by
    refine State.targetOf_congr k ?_ ?_ ?_ ?_ ?_ fun c => ?_ <;> simp [State.retarget_slu]
  refine ⟨⟨?_, fun k => ⟨⟨(targetIs_iff _ _ _).mpr (by rw [ht, hu]), ?_, (hc k).1, (hc k).2⟩, by rw [ht, hl]⟩⟩,
    fun j => ?_⟩
  · rw [State.retarget_slu]
    unfold ShareLimit.retargeted
    split <;> split <;> rfl
  · rw [ht, hl]
    exact Nat.min_le_right _ _
  · have ha := hl .a
    have hb := hl .b
    simp only [Pair.get_a, Pair.get_b] at ha hb
    have ea : (min s.slu.limit.a (s.targetOf .a) < s.slu.limit.a) = (s.targetOf .a < s.slu.limit.a) := by
      apply propext
      omega
    have eb : (min s.slu.limit.b (s.targetOf .b) < s.slu.limit.b) = (s.targetOf .b < s.slu.limit.b) := by
      apply propext
      omega
    rw [State.retarget_lanes, limitFalls, ha, hb]
    simp only [ea, eb]

/-- A move of the drive state whose new targets lie at or above the limits: the targets follow, STATE is raised on every
lane, and nothing else changes (R1, R39). -/
theorem State.moveTo_spec (d : DriveState)
    (h : ∀ k, s.slu.limit.get k ≤ (s.updRc fun r => { r with drive := d }).targetOf k) :
    s.moveTo d =
        { s with
          lanes := (s.moveTo d).lanes
          rc := { s.rc with drive := d }
          slu := { s.slu with target := (s.moveTo d).slu.target } } ∧
      (∀ k, TargetIs (s.moveTo d) k ((s.moveTo d).slu.target.get k)) ∧
      (∀ k, (s.moveTo d).slu.target.get k = (s.updRc fun r => { r with drive := d }).targetOf k) ∧
      OnlyNotices s (s.moveTo d) stateBit := by
  have hslu : (s.moveTo d).slu = { s.slu with target :=
      ⟨(s.updRc fun r => { r with drive := d }).targetOf .a, (s.updRc fun r => { r with drive := d }).targetOf .b⟩ } := by
    simp only [State.moveTo, State.raiseAll_slu, State.retarget_slu, State.updRc_slu]
    rw [ShareLimit.retargeted_up _ _ _ (h .a), ShareLimit.retargeted_up _ _ _ (by simpa using h .b)]
    rfl
  have ht : ∀ k, (s.moveTo d).slu.target.get k = (s.updRc fun r => { r with drive := d }).targetOf k := by
    intro k
    rw [hslu]
    cases k <;> rfl
  refine ⟨?_, fun k => ?_, ht, fun j => ?_⟩
  · apply State.ext_fields <;> simp [State.moveTo]
    rw [ShareLimit.retargeted_up _ _ _ (h .a), ShareLimit.retargeted_up _ _ _ (by simpa using h .b)]
  · rw [targetIs_iff, ht]
    refine (State.targetOf_congr k ?_ ?_ ?_ ?_ ?_ ?_).symm <;> simp [State.moveTo]
  · have bit : (Notice.state.bit : Byte) = 0x80 := by decide
    have ha := h .a
    have hb := h .b
    simp only [Pair.get_a, Pair.get_b] at ha hb
    simp only [State.moveTo, State.raiseAll_get, State.retarget_lanes, State.updRc_slu, State.updRc_lanes]
    simp [Nat.not_lt.mpr ha, Nat.not_lt.mpr hb, LaneState.raise_eq, bit, limitBit, stateBit]

/-- A value clamped to a range, as the larger of the low end and the smaller of the high end and the value. -/
theorem clampInt_eq (x lo hi : Int) (h : lo ≤ hi) : clampInt x lo hi = max lo (min hi x) := by
  unfold clampInt
  omega

/-- The adjustment of a demand is the floor of T × d / 32768 + 1/2 (R29). -/
theorem splitAdjust_eq (t d : Int) : splitAdjust t d = (t * d + 16384) / 32768 :=
  Int.shiftRight_eq_div_pow _ 15

/-- The split of a demand that arrives with a sample of the lead pinion (R29 to R31). -/
theorem State.split_spec (k : Pinion) (T : Word16) (h : k = s.slu.lead) :
    Split s.slu (s.split T.toInt).slu k (some T) ∧ s.split T.toInt = { s with slu := (s.split T.toInt).slu } := by
  refine ⟨⟨fun U hU _ => ?_, fun hn => ?_⟩, rfl⟩
  · cases hU
    refine ⟨_, rfl, _, _, rfl, rfl, ?_⟩
    have ha : ∀ x : Int, sat16 x = max (-32768) (min 32767 x) := fun x => clampInt_eq x _ _ (by decide)
    have hl : ∀ (x : Int) (n : Nat), clampInt x (-(n : Int)) n = max (-(n : Int)) (min n x) := fun x n =>
      clampInt_eq x _ _ (by omega)
    simp only [State.split, State.updSlu_slu, ShareLimit.setRaw, ShareLimit.reclamp, splitRaw, splitAdjust_eq, ha, hl,
      Pair.set, Pair.get]
  · rcases hn with h' | h'
    · cases h'
    · exact absurd h h'

/-! ### Trip records -/

theorem Recorder.fillingSlot_some {t : Recorder} {i : Fin 8} (h : t.fillingSlot = some i) :
    t.current = some i ∧ (t.slots.get i).state = .filling := by
  unfold Recorder.fillingSlot at h
  split at h
  · rename_i j hj
    split at h
    · cases h
      exact ⟨hj, ‹_›⟩
    · cases h
  · cases h

theorem Recorder.fillingSlot_of {t : Recorder} {i : Fin 8} (h1 : t.current = some i)
    (h2 : (t.slots.get i).state = .filling) : t.fillingSlot = some i := by
  unfold Recorder.fillingSlot
  simp [h1, h2]

/-- A cause reported in TRIPPED changes the slots only, by R142. -/
theorem State.offerLater_spec (cause : Cause) :
    LaterCause s (s.offerLater cause) cause ∧
      s.offerLater cause = { s with trc := { s.trc with slots := (s.offerLater cause).trc.slots } } := by
  unfold State.offerLater
  cases hf : s.trc.fillingSlot with
  | none =>
    have hn : ¬RecordFilling s := by rw [recordFilling_iff, hf]; simp
    exact ⟨⟨fun _ => rfl, fun i h1 h2 => absurd ⟨i, h1, h2⟩ hn⟩, rfl⟩
  | some i =>
    obtain ⟨h1, h2⟩ := Recorder.fillingSlot_some hf
    refine ⟨⟨fun h => absurd ⟨i, h1, h2⟩ h, fun j hj _ => ?_⟩, rfl⟩
    obtain rfl : j = i := by rw [h1] at hj; exact (Option.some.inj hj).symm
    have hs : ∀ r : TripRecord, ({ s.trc.slots.get j with record := r } : Slot) = ⟨.filling, r⟩ := fun r => by
      simp [h2]
    exact congrArg (s.trc.slots.set j) (hs _)

/-- The slot a record of pinion k is appended to (R143). -/
theorem appendsAt_iff (k : Pinion) (i : Fin 8) : AppendsAt s k i ↔ s.trc.appendSlot k = some i := by
  unfold AppendsAt Recorder.appendSlot
  constructor
  · rintro ⟨h1, h2, h3⟩
    simp [Recorder.fillingSlot_of h1 h2, Config.postSize, h3]
  · intro h
    split at h
    · rename_i j hj
      split at h
      · cases h
        exact ⟨(Recorder.fillingSlot_some hj).1, (Recorder.fillingSlot_some hj).2, ‹_›⟩
      · cases h
    · cases h

theorem TripRecord.full_iff (x : TripRecord) (k : Pinion) :
    x.full = true ↔ 16 ≤ (x.post.get k).length ∧ 16 ≤ (x.post.get k.other).length := by
  have h : x.full = true ↔ 16 ≤ x.post.a.length ∧ 16 ≤ x.post.b.length := by
    unfold TripRecord.full
    rw [Bool.and_eq_true, decide_eq_true_eq, decide_eq_true_eq]
    rfl
  rw [h]
  cases k
  · rfl
  · exact and_comm

/-- A record that goes into the ring only (R133 to R135, R140). -/
theorem State.writeEntryRecord_spec (k : Pinion) (counter : Byte) (draft : Snapshot) :
    RingGains s (s.writeEntryRecord k counter draft) k (s.trc.complete k counter draft false) counter ∧
      RingStays s (s.writeEntryRecord k counter draft) k.other ∧
      (s.writeEntryRecord k counter draft).trc.slots = s.trc.slots := by
  refine ⟨⟨?_, ?_, ?_⟩, ⟨?_, ?_, ?_⟩, rfl⟩ <;> cases k <;> rfl

/-- A record appended to slot i, before the record is closed (R143). -/
def State.appended (s : State) (k : Pinion) (counter : Byte) (r : Snapshot) (i : Fin 8) : State :=
  s.updTrc fun t => (t.push k counter r).append i k r

theorem State.appended_slots (k : Pinion) (counter : Byte) (r : Snapshot) (i : Fin 8)
    (h : (s.trc.slots.get i).state = .filling) :
    (s.appended k counter r i).trc.slots = s.trc.slots.set i
      ⟨.filling, { (s.trc.slots.get i).record with
        post := (s.trc.slots.get i).record.post.set k ((s.trc.slots.get i).record.post.get k ++ [r]) }⟩ := by
  have hs : ∀ x : TripRecord, ({ s.trc.slots.get i with record := x } : Slot) = ⟨.filling, x⟩ := fun x => by simp [h]
  exact congrArg (s.trc.slots.set i) (hs _)

/-- The append fills both parts exactly where `ClosesAt` says so (R144). -/
theorem State.appended_full (k : Pinion) (counter : Byte) (r : Snapshot) (i : Fin 8) (h : AppendsAt s k i) :
    ((s.appended k counter r i).trc.slots.get i).record.full = true ↔ ClosesAt s k i := by
  rw [TripRecord.full_iff _ k, s.appended_slots k counter r i h.2.1]
  simp only [ClosesAt, h, true_and, Eight.get_set]
  cases k <;> simp [Pinion.other, Pair.get, Pair.set]

theorem State.writeRecord_of_append (k : Pinion) (counter : Byte) (draft : Snapshot) (i : Fin 8)
    (h : s.trc.appendSlot k = some i) :
    s.writeRecord k counter draft =
      if ((s.appended k counter (s.trc.complete k counter draft true) i).trc.slots.get i).record.full then
        (s.appended k counter (s.trc.complete k counter draft true) i).closeRecord i
      else s.appended k counter (s.trc.complete k counter draft true) i := by
  unfold State.writeRecord
  rw [h]
  rfl

/-- The writing of a record (R133, R143, R144). -/
theorem State.writeRecord_spec (k : Pinion) (counter : Byte) (draft : Snapshot) :
    Written s (s.writeRecord k counter draft) k (s.trc.complete k counter draft false) counter ∧
      ∃ f, CloseBit s k f ∧ OnlyNotices s (s.writeRecord k counter draft) f := by
  cases ha : s.trc.appendSlot k with
  | none =>
    have hn : ∀ i, ¬AppendsAt s k i := fun i h => by rw [appendsAt_iff, ha] at h; cases h
    obtain ⟨h1, h2, h3⟩ := s.writeEntryRecord_spec k counter draft
    have hw : s.writeRecord k counter draft = s.writeEntryRecord k counter draft := by
      unfold State.writeRecord
      rw [ha]
    rw [hw]
    refine ⟨⟨h2, rfl, rfl, rfl, rfl, fun _ => ⟨h1, h3, rfl⟩, fun i h => absurd h (hn i)⟩, quiet,
      ⟨fun ⟨i, h⟩ => absurd h.1 (hn i), fun _ => rfl⟩, fun j => ?_⟩
    simp [quiet]
  | some i =>
    have hi : AppendsAt s k i := (appendsAt_iff s k i).mpr ha
    have hu : ∀ j, AppendsAt s k j → j = i := fun j h => by
      rw [appendsAt_iff, ha] at h
      exact (Option.some.inj h).symm
    have hf := s.appended_full k counter (s.trc.complete k counter draft true) i hi
    have hs := s.appended_slots k counter (s.trc.complete k counter draft true) i hi.2.1
    have hg : RingGains s (s.appended k counter (s.trc.complete k counter draft true) i) k
        { s.trc.complete k counter draft false with post := true } counter := by
      refine ⟨?_, ?_, ?_⟩ <;> cases k <;> rfl
    have hr : RingStays s (s.appended k counter (s.trc.complete k counter draft true) i) k.other := by
      refine ⟨?_, ?_, ?_⟩ <;> cases k <;> rfl
    rw [s.writeRecord_of_append k counter draft i ha]
    by_cases hc : ClosesAt s k i
    · rw [if_pos (hf.mpr hc)]
      refine ⟨⟨hr, rfl, rfl, rfl, rfl, fun h => absurd hi (h i), fun j hj => ?_⟩, fun _ => 0x02,
        ⟨fun _ => rfl, fun h => absurd hc (h i)⟩, fun j => ?_⟩
      · obtain rfl := hu j hj
        refine ⟨hg, fun h => absurd hc h, fun _ => ⟨?_, rfl⟩⟩
        show ((s.appended k counter (s.trc.complete k counter draft true) j).trc.slots.set j _) = _
        rw [hs, Eight.get_set_self, Eight.set_set]
        rfl
      · rw [State.closeRecord, State.raiseAll_get, LaneState.raise_eq]
        rfl
    · rw [if_neg fun h => hc (hf.mp h)]
      refine ⟨⟨hr, rfl, rfl, rfl, rfl, fun h => absurd hi (h i), fun j hj => ?_⟩, quiet,
        ⟨fun ⟨j, h⟩ => ?_, fun _ => rfl⟩, fun j => ?_⟩
      · obtain rfl := hu j hj
        exact ⟨hg, fun _ => ⟨hs, rfl⟩, fun h => absurd h hc⟩
      · obtain rfl := hu j h.1
        exact absurd h hc
      · simp [quiet, State.appended]

/-! ### Computations -/

/-- The start of a computation (R61, R72). -/
theorem State.startComputation_spec (e : Entry) : ∃ c,
    s.startComputation e =
        { s with crg := (s.startComputation e).crg, rau := { s.rau with inFlight := some c } } ∧
      Starts s.slu s.crg (s.startComputation e).crg e c := by
  refine ⟨_, rfl, fun g hg hm => ⟨?_, ?_⟩, fun h => ⟨?_, ?_⟩, rfl⟩
  · show s.crg.takeUp e.pinion = _
    unfold Regulators.takeUp
    rw [hg]
    dsimp only
    rw [if_pos hm]
    cases e.pinion
    · cases hb : g.mark.b <;> simp [Pinion.other, Pair.set, Pair.get, hb]
    · cases ha : g.mark.a <;> simp [Pinion.other, Pair.set, Pair.get, ha]
  · show s.crg.willTakeUp e.pinion = true
    simp [Regulators.willTakeUp, hg, hm]
  · show s.crg.takeUp e.pinion = s.crg
    unfold Regulators.takeUp
    cases hg : s.crg.staged with
    | none => rfl
    | some g => simp [h g hg]
  · show s.crg.willTakeUp e.pinion = false
    unfold Regulators.willTakeUp
    cases hg : s.crg.staged with
    | none => rfl
    | some g => exact h g hg

/-- The reply to a sample (R35, R74). -/
theorem State.sampleReply_spec (k : Pinion) (v : Int) (ignored hi lo new trip : Bool) :
    SampleReply s k v ignored hi lo new trip
      ⟨RequestKind.sample.code, .ok, s.rc.drive, s.sampleReply k v ⟨ignored, hi, lo, new, trip⟩⟩ := by
  refine ⟨_, packBits_hasBits _, ?_⟩
  rw [Bool.and_comm s.slu.limited.a, Bool.and_comm s.slu.limited.b]
  rfl

end Sys2Proof.Machine
end

