-- ==== Sys2Proof/Laws/Arithmetic.lean ====
section
/-! SUPPORT. What the arithmetic of a computation, of a chain window and of a level does, each said once in the terms of
Safety. -/

namespace Sys2Proof.Machine

/-! ### The seven steps of a computation -/

theorem Sat.holds_iff (x : Sat) (e : Int) : x.holds e = true ↔ x = .high ∧ 0 < e ∨ x = .low ∧ e < 0 := by
  cases x <;> simp [Sat.holds]

theorem sat16_of_mem {x : Int} (h1 : -32768 ≤ x) (h2 : x ≤ 32767) : sat16 x = x := by
  simp only [sat16, clampInt]
  omega

/-- An accumulator within its bound stays within it (R57, R66). -/
theorem Computation.newAcc_sound (c : Computation) (h : accSound c.acc) : accSound c.newAcc := by
  unfold Computation.newAcc piAccumulate
  split
  · exact h
  · simp only [accSound, clampInt, Config.accBound]
    omega

/-- A computation does its seven steps (R65 to R69). -/
theorem Computation.computed (c : Computation) (h : accSound c.acc) (hg : c.gains.sound) :
    Computed c c.newAcc c.vDem c.newSat := by
  have hs : ∀ x : Int, sat16 x = max (-32768) (min 32767 x) := fun x => clampInt_eq x _ _ (by decide)
  have ha := c.newAcc_sound h
  have hi : piIntegral c.newAcc = (c.newAcc + 32768) / 65536 := by
    have e : (c.newAcc + 32768) >>> (16 : Nat) = (c.newAcc + 32768) / 65536 := Int.shiftRight_eq_div_pow _ 16
    simp only [accSound, Config.accBound] at ha
    unfold piIntegral
    rw [e]
    exact sat16_of_mem (by omega) (by omega)
  refine ⟨c.error, _, piProportional c.gains.kp c.error, piFeedforward c.gains c.entry.n, c.sum, hs _, fun hh => ?_,
    fun hh => ?_, rfl, Int.shiftRight_eq_div_pow _ 12, fun hf => ?_, fun hf => ?_, ?_, ?_, fun hx => ?_, fun hx => ?_,
    fun hx hy => ?_⟩
  · simp [Computation.newAcc, piAccumulate, (Sat.holds_iff _ _).mpr hh]
  · have : c.sat.holds c.error = false := by rw [Bool.eq_false_iff]; exact fun h => hh ((Sat.holds_iff _ _).mp h)
    simp only [Computation.newAcc, piAccumulate, this, Bool.false_eq_true, if_false]
    exact clampInt_eq _ _ _ (by decide)
  · simp [piFeedforward, hf]
  · simp [piFeedforward, hf]
  · rw [Computation.sum, hi]
  · exact clampInt_eq _ _ _ (hg.1.trans hg.2)
  · simp [Computation.newSat, hx]
  · have := hg.1.trans hg.2
    simp only [Computation.newSat]
    rw [if_neg (by omega), if_pos hx]
  · simp only [Computation.newSat]
    rw [if_neg (by omega), if_neg (by omega)]

/-! ### Chain windows -/

theorem inReplyWindow_iff (c : Fin 8) (p : Nat) : inReplyWindow c p = true ↔ InWindow c p := by
  unfold inReplyWindow InWindow Config.nominal
  rw [Bool.and_eq_true, decide_eq_true_eq, decide_eq_true_eq]
  omega

theorem firstWord_some {c : Fin 8} {words : List ChainWord} {w : ChainWord} :
    firstWord c words = some w ↔ FirstIn c words w := by
  simp only [firstWord, FirstIn, List.find?_eq_some_iff_append, inReplyWindow_iff]
  constructor
  · rintro ⟨h1, as, bs, h2, h3⟩
    refine ⟨as, bs, h2, h1, fun v hv hw => ?_⟩
    have := h3 v hv
    simp [(inReplyWindow_iff _ _).mpr hw] at this
  · rintro ⟨as, bs, h2, h1, h3⟩
    refine ⟨h1, as, bs, h2, fun v hv => ?_⟩
    have : inReplyWindow c v.start = false := by
      rw [Bool.eq_false_iff]
      exact fun h => h3 v hv ((inReplyWindow_iff _ _).mp h)
    simp [this]

theorem firstWord_none {c : Fin 8} {words : List ChainWord} :
    firstWord c words = none ↔ ∀ w ∈ words, ¬InWindow c w.start := by
  simp only [firstWord, List.find?_eq_none, inReplyWindow_iff]

theorem passes_iff (pattern : BitVec 2) (w : ChainWord) : passesCheck pattern w.bits = true ↔ Passes pattern w := by
  simp only [passesCheck, Passes, Bool.and_eq_true, beq_iff_eq]

theorem NodeEntry.missRound_eq (e : NodeEntry) : e.missRound = e.failed := by
  unfold NodeEntry.missRound NodeEntry.failed Config.missLimit
  by_cases h : 16 ≤ e.miss + 1
  · simp [h]
  · have hm : min (e.miss + 1) 16 ≠ 16 := by omega
    simp [h, hm]

/-- The outcome of a polled position's window (R98, R99, R101, R102, R104). -/
theorem NodeEntry.heard (e : NodeEntry) (c : Fin 8) (words : List ChainWord) :
    Heard e c words (e.settle (e.receive c words)) (e.receive c words).value := by
  unfold NodeEntry.receive
  cases hw : firstWord c words with
  | none =>
    simp only [NodeEntry.settle, Reception.value, NodeEntry.missRound_eq]
    exact .silent (firstWord_none.mp hw)
  | some w =>
    have hf := firstWord_some.mp hw
    dsimp only
    by_cases ha : inAcceptance e.expected w.start = true
    · have hb : e.expected ≤ w.start + 3 ∧ w.start ≤ e.expected + 3 := by simpa [inAcceptance] using ha
      rw [if_pos ha]
      by_cases hp : passesCheck samplePattern w.bits = true
      · rw [if_pos hp]
        exact .good w _ hf hb.1 hb.2 ((passes_iff _ _).mp hp) (clampInt_eq _ _ _ (by decide))
      · rw [if_neg hp]
        simp only [NodeEntry.settle, Reception.value, NodeEntry.missRound_eq, Config.countMax]
        exact .bad w hf hb.1 hb.2 fun h => hp ((passes_iff _ _).mpr h)
    · have hb : ¬(e.expected ≤ w.start + 3 ∧ w.start ≤ e.expected + 3) := by simpa [inAcceptance] using ha
      rw [if_neg ha]
      simp only [NodeEntry.settle, Reception.value, NodeEntry.missRound_eq, Config.countMax]
      by_cases hl : w.start < e.expected
      · rw [if_pos hl]
        exact .early w hf (by omega)
      · rw [if_neg hl]
        exact .late w hf (by omega)

/-! ### Windows and levels -/

theorem ChannelEntry.endWindow_eq (c : ChannelEntry) (code : Nat) (h : c.count ≤ windowLength code) :
    c.endWindow code =
      if c.count = 2 ^ (6 + code) then
        { c with s1 := 0, s2 := 0, count := 0, subs := 0, computation := some ⟨c.s1, c.s2, c.subs, code⟩ }
      else c := by
  unfold windowLength windowLog at h
  unfold ChannelEntry.endWindow windowLength windowLog
  by_cases hc : c.count = 2 ^ (6 + code)
  · rw [if_pos hc, if_pos hc.ge]
    rfl
  · rw [if_neg hc, if_neg (by omega)]

/-- The hand-over of a good sample (R120, R122). -/
theorem ChannelEntry.goodSample_eq (c : ChannelEntry) (code : Nat) (x : Int) (h : c.count < windowLength code) :
    c.goodSample x code = c.handed (some x) code := by
  unfold ChannelEntry.goodSample
  rw [ChannelEntry.endWindow_eq _ _ (by simpa [ChannelEntry.add] using h)]
  rfl

/-- The hand-over of a failed sample (R121, R122). -/
theorem ChannelEntry.failedSample_eq (c : ChannelEntry) (code : Nat) (h : c.count < windowLength code) :
    c.failedSample code = c.handed none code := by
  unfold ChannelEntry.failedSample
  rw [ChannelEntry.endWindow_eq _ _ (by simpa [ChannelEntry.add] using h)]
  rfl

theorem isqrtBits_spec (n b : Nat) : ∀ root, root * root ≤ n → n < (root + 2 ^ b) * (root + 2 ^ b) →
    isqrtBits n b root * isqrtBits n b root ≤ n ∧ n < (isqrtBits n b root + 1) * (isqrtBits n b root + 1) := by
  induction b with
  | zero => exact fun root h1 h2 => ⟨h1, by simpa [isqrtBits] using h2⟩
  | succ b ih =>
    intro root h1 h2
    unfold isqrtBits isqrtStep
    have hp : root + 2 ^ b + 2 ^ b = root + 2 ^ (b + 1) := by omega
    split
    · exact ih _ ‹_› (by rw [hp]; exact h2)
    · exact ih _ h1 (by omega)

/-- `isqrt` is the whole square root (R123). -/
theorem isqrt_spec (n : Nat) : isqrt n * isqrt n ≤ n ∧ n < (isqrt n + 1) * (isqrt n + 1) := by
  refine isqrtBits_spec n _ 0 (by omega) ?_
  have h : n < 2 ^ (n.log2 + 1) := Nat.lt_log2_self
  have hle : 2 ^ (n.log2 + 1) ≤ 2 ^ (n.log2 / 2 + 1 + (n.log2 / 2 + 1)) := Nat.pow_le_pow_right (by omega) (by omega)
  rw [Nat.zero_add, ← pow_add]
  omega

/-- The level of a window is the root of its mean square (R123). -/
theorem LevelComputation.rms_spec (l : LevelComputation) : IsLevel l l.rms := by
  have hm : (l.s1 >>> windowLog l.code : Int) = l.s1 / 2 ^ (6 + l.code) := by
    rw [Int.shiftRight_eq_div_pow, windowLog]
    norm_num
  have hs : l.s2 >>> windowLog l.code = l.s2 / 2 ^ (6 + l.code) := Nat.shiftRight_eq_div_pow _ _
  have hmax : max (((l.s2 / 2 ^ (6 + l.code) : Nat) : Int) - l.s1 / 2 ^ (6 + l.code) * (l.s1 / 2 ^ (6 + l.code))) 0 =
      (l.meanSquare : Int) := by
    have hq : ((l.s1 / 2 ^ (6 + l.code)).natAbs * (l.s1 / 2 ^ (6 + l.code)).natAbs : Int) =
        l.s1 / 2 ^ (6 + l.code) * (l.s1 / 2 ^ (6 + l.code)) := Int.natAbs_mul_self
    simp only [LevelComputation.meanSquare, hm, hs]
    generalize (l.s1 / 2 ^ (6 + l.code)).natAbs = m at hq ⊢
    rw [← hq]
    generalize l.s2 / 2 ^ (6 + l.code) = n
    have hc : ((m * m : Nat) : Int) = (m : Int) * m := Nat.cast_mul m m
    rw [← hc]
    omega
  obtain ⟨h1, h2⟩ := isqrt_spec l.meanSquare
  unfold IsLevel
  dsimp only
  rw [hmax]
  exact ⟨by exact_mod_cast h1, by exact_mod_cast h2⟩

theorem RunCounters.step_eq (c : ChannelEntry) (rms : Nat) : c.runs.step c.config rms = c.runsAfter rms := by
  unfold RunCounters.step ChannelEntry.runsAfter runStep counted
  simp only [decide_eq_true_eq, Nat.lt_sub_iff_add_lt]

/-- The state move of a non-suspect window (R126). -/
theorem Vibration.move_spec (v : Vibration) (c : ChannelEntry) (rms : Nat) (r : RunCounters) :
    Moves v c rms r (v.move c.config rms r c.state) := by
  cases hs : c.state with
  | unknown =>
    unfold Vibration.move
    dsimp only
    split
    · exact .fromUnknownHigh hs ‹_›
    · exact .fromUnknownLow hs (by omega)
  | normal =>
    unfold Vibration.move
    dsimp only
    split
    · exact .toDanger (.inl hs) ‹_›
    · split
      · exact .toAlert hs (by omega) ‹_›
      · exact .staysNormal hs (by omega) (by omega)
  | alert =>
    unfold Vibration.move
    dsimp only
    split
    · exact .toDanger (.inr hs) ‹_›
    · split
      · exact .toNormal hs (by omega) ‹_›
      · exact .staysAlert hs (by omega) (by omega)
  | danger =>
    unfold Vibration.move
    dsimp only
    split
    · exact .fallsBack hs ‹_›
    · exact .staysDanger hs (by omega)

/-- The entry after the completion of a level computation (R124 to R126). -/
theorem Vibration.completeLevel_spec (v : Vibration) (c : ChannelEntry) (l : LevelComputation) (time : Word32) :
    LevelWritten v c (v.completeLevel c l time) l time := by
  refine ⟨l.rms, l.rms_spec, fun h => ?_, fun h => ⟨_, v.move_spec c l.rms _, ?_⟩⟩
  · have hs : l.suspect = true := decide_eq_true h
    have hn : min (c.suspectRun + 1) 3 = 3 ↔ 3 ≤ c.suspectRun + 1 := by omega
    simp only [Vibration.completeLevel, hs, if_true, ChannelEntry.suspectWindow, ChannelEntry.recordLevel, hn]
    by_cases h3 : 3 ≤ c.suspectRun + 1
    · by_cases hu : c.state = .unknown <;> simp [h3, hu, RunCounters.zero]
    · simp [h3]
  · have hs : l.suspect = false := decide_eq_false (Nat.not_lt.mpr h)
    simp only [Vibration.completeLevel, hs, Bool.false_eq_true, if_false, Vibration.goodWindow, ChannelEntry.recordLevel,
      RunCounters.step_eq]

end Sys2Proof.Machine
end

