-- ==== Sys2Proof/Laws/PerInstr.lean ====
section
/-! SUPPORT. One statement for every command as syntax: what its frame is made of. A request is carried by a lane and has
a payload of one of the lengths that chapter 10, Table 4 gives its kind; an event has no lane and no frame. -/

namespace Sys2Proof.Laws.Frame

open Sys2Proof Machine

/-- The command has a frame exactly if a lane carries it, and then its payload has a length of its kind. -/
def Statement (i : Instr) : Prop :=
  match requestLane i, encodePayload i with
  | some _, some (kind, payload) => payload.length ∈ kind.lengths
  | none, none => True
  | _, _ => False

theorem selectionStart (lane : Lane) : Statement (.selectionStart lane) := trivial

theorem badFrame (lane : Lane) (bytes : List Byte) : Statement (.badFrame lane bytes) := trivial

theorem pendingSelection (lane : Lane) (bytes : List Byte) : Statement (.pendingSelection lane bytes) := trivial

theorem nop (lane : Lane) : Statement (.nop lane) := List.mem_of_elem_eq_true rfl

theorem readStatus (lane : Lane) : Statement (.readStatus lane) := List.mem_of_elem_eq_true rfl

theorem readIdent (lane : Lane) : Statement (.readIdent lane) := List.mem_of_elem_eq_true rfl

theorem readLimits (lane : Lane) (page : Option Byte) : Statement (.readLimits lane page) := by
  cases page <;> exact List.mem_of_elem_eq_true rfl

theorem readChannel (lane : Lane) (channel : Byte) : Statement (.readChannel lane channel) := List.mem_of_elem_eq_true rfl

theorem readNode (lane : Lane) (position : Byte) : Statement (.readNode lane position) := List.mem_of_elem_eq_true rfl

theorem readTripSummary (lane : Lane) (slot : Byte) (page : Option Byte) :
    Statement (.readTripSummary lane slot page) := by
  cases page <;> exact List.mem_of_elem_eq_true rfl

theorem setCursor (lane : Lane) (slot pinion index direction : Byte) :
    Statement (.setCursor lane slot pinion index direction) := List.mem_of_elem_eq_true rfl

theorem readNext (lane : Lane) : Statement (.readNext lane) := List.mem_of_elem_eq_true rfl

theorem ackNotice (lane : Lane) (kind : Byte) : Statement (.ackNotice lane kind) := List.mem_of_elem_eq_true rfl

theorem setMask (lane : Lane) (mask : Byte) : Statement (.setMask lane mask) := List.mem_of_elem_eq_true rfl

theorem sample (lane : Lane) (iMeas n : Word16) (counter bridge : Byte) (demand : Option Word16) :
    Statement (.sample lane iMeas n counter bridge demand) := by
  cases demand <;> exact List.mem_of_elem_eq_true rfl

theorem ackTrip (lane : Lane) : Statement (.ackTrip lane) := List.mem_of_elem_eq_true rfl

theorem trip (lane : Lane) : Statement (.trip lane) := List.mem_of_elem_eq_true rfl

theorem arm (lane : Lane) : Statement (.arm lane) := List.mem_of_elem_eq_true rfl

theorem disarm (lane : Lane) : Statement (.disarm lane) := List.mem_of_elem_eq_true rfl

theorem start (lane : Lane) : Statement (.start lane) := List.mem_of_elem_eq_true rfl

theorem inch (lane : Lane) : Statement (.inch lane) := List.mem_of_elem_eq_true rfl

theorem stop (lane : Lane) : Statement (.stop lane) := List.mem_of_elem_eq_true rfl

theorem clearTrip (lane : Lane) : Statement (.clearTrip lane) := List.mem_of_elem_eq_true rfl

theorem setLimits (lane : Lane) (plant ceilA ceilB derate inchCeiling rampStep : Word16) :
    Statement (.setLimits lane plant ceilA ceilB derate inchCeiling rampStep) := List.mem_of_elem_eq_true rfl

theorem setGains (lane : Lane) (kp ki : Word16) (feedforward : Byte) (uMin uMax : Word16) :
    Statement (.setGains lane kp ki feedforward uMin uMax) := List.mem_of_elem_eq_true rfl

theorem setShare (lane : Lane) (lead : Byte) (offset : Word16) : Statement (.setShare lane lead offset) := List.mem_of_elem_eq_true rfl

theorem setWatch (lane : Lane) (oc : Word16) (q : Word32) (decay imbalance : Word16) (shift persistence : Byte)
    (zeroBand zeroSpeed stopTimeout : Word16) (silenceCode : Byte) :
    Statement (.setWatch lane oc q decay imbalance shift persistence zeroBand zeroSpeed stopTimeout silenceCode) := List.mem_of_elem_eq_true rfl

theorem setChannel (lane : Lane) (channel enabled group : Byte) (alert danger hysteresis : Word16)
    (tripOnLoss : Byte) :
    Statement (.setChannel lane channel enabled group alert danger hysteresis tripOnLoss) := List.mem_of_elem_eq_true rfl

theorem setChain (lane : Lane) (rate window na nd nc : Byte) : Statement (.setChain lane rate window na nd nc) := List.mem_of_elem_eq_true rfl

theorem discover (lane : Lane) (count : Byte) : Statement (.discover lane count) := List.mem_of_elem_eq_true rfl

theorem release (lane : Lane) (slot : Byte) : Statement (.release lane slot) := List.mem_of_elem_eq_true rfl

theorem setTime (lane : Lane) (time : Word32) : Statement (.setTime lane time) := List.mem_of_elem_eq_true rfl

theorem clearCapture (lane : Lane) : Statement (.clearCapture lane) := List.mem_of_elem_eq_true rfl

theorem clearCauses (lane : Lane) : Statement (.clearCauses lane) := List.mem_of_elem_eq_true rfl

theorem reset (lane : Lane) (straps : Straps) : Statement (.reset lane straps) := List.mem_of_elem_eq_true rfl

theorem powerOn (straps : Straps) (pinLow : Bool) : Statement (.powerOn straps pinLow) := trivial

theorem resetPin : Statement .resetPin := trivial

theorem resetPinRelease (straps : Straps) : Statement (.resetPinRelease straps) := trivial

theorem initialisationEnd : Statement .initialisationEnd := trivial

theorem timeCountAdvance : Statement .timeCountAdvance := trivial

theorem rampTick : Statement .rampTick := trivial

theorem silenceTimerExpiry (pinion : Pinion) : Statement (.silenceTimerExpiry pinion) := trivial

theorem stopTimerExpiry : Statement .stopTimerExpiry := trivial

theorem postTripTimerExpiry : Statement .postTripTimerExpiry := trivial

theorem roundStart : Statement .roundStart := trivial

theorem replyWindowClose (position : Channel) (words : List ChainWord) :
    Statement (.replyWindowClose position words) := trivial

theorem computationCompletion : Statement .computationCompletion := trivial

theorem levelComputationCompletion (channel : Channel) : Statement (.levelComputationCompletion channel) := trivial

theorem fetchCompletion (lane : Lane) : Statement (.fetchCompletion lane) := trivial

end Sys2Proof.Laws.Frame
end

