-- ==== Sys2Proof/Machine/NodeConduct.lean ====
section
/-! DEFINITION. The conduct of the sensor nodes that the sensor chain controller depends on (R100). The nodes are not part
of the DK426: no step reads this file, and the words that come back are operands of REPLY_WINDOW_CLOSE. -/

namespace Sys2Proof.Machine

/-- A sensor node: the position it holds, the mark it has answered, its identity code (R100). -/
structure Node where
  position : Option (Fin 8)
  answered : Option (Fin 8)
  identity : BitVec 10
  deriving DecidableEq, Repr

/-- What a node sends up the chain at a poll. -/
inductive NodeAnswer where
  | silent
  | sample
  | identity (echo : Fin 8) (code : BitVec 10)
  deriving DecidableEq, Repr

/-- The span code of a poll as sent. -/
def pollSpan (p : BitVec 11) : BitVec 4 := p.extractLsb' 5 4

/-- The mark code of a poll as sent. -/
def pollMark (p : BitVec 11) : BitVec 4 := p.extractLsb' 1 4

/-- The poll's parity is even (section 6.2, Table 2, note 1). -/
def pollEven (p : BitVec 11) : Bool := onesBelow p 9 % 2 == 0

/-- The search position a mark code names. -/
def markPosition (m : BitVec 4) : Option (Fin 8) := if h : m.toNat < 8 then some ⟨m.toNat, h⟩ else none

/-- A node holding position c answers with a sample word when the span covers it (R100, "Samples"). -/
def sampleAnswer (span : BitVec 4) (c : Fin 8) : NodeAnswer :=
  if span.toNat < 8 ∧ c.val ≤ span.toNat then .sample else .silent

/-- A node without a position at a poll (R100, "Search"): it answers a mark and forwards the poll with mark 15. -/
def Node.search (nd : Node) (p : BitVec 11) : Node × BitVec 11 × NodeAnswer :=
  match markPosition (pollMark p) with
  | some n => ({ nd with answered := some n }, pollWord (pollSpan p) markNone, .identity n nd.identity)
  | none => (nd, p, .silent)

/-- A node at a poll: the node after it, the poll it forwards, and what it answers (R100). -/
def Node.hear (nd : Node) (p : BitVec 11) : Node × BitVec 11 × NodeAnswer :=
  if pollEven p = false then (nd, p, .silent)
  else if pollMark p = markClear then ({ nd with position := none, answered := none }, p, .silent)
  else
    match nd.position, nd.answered with
    | some c, _ => (nd, p, sampleAnswer (pollSpan p) c)
    | none, some n =>
      if pollMark p = markNone ∨ (pollMark p).toNat = n.val + 1 then
        ({ nd with position := some n, answered := none }, p, sampleAnswer (pollSpan p) n)
      else nd.search p
    | none, none => nd.search p

/-- A poll going down a chain of nodes: the nodes after it and their answers, from the head outward (R100). -/
def hearAll (p : BitVec 11) : List Node → List (Node × NodeAnswer)
  | [] => []
  | nd :: rest => ((nd.hear p).1, (nd.hear p).2.2) :: hearAll (nd.hear p).2.1 rest

end Sys2Proof.Machine
end

