-- ==== Sys2Proof/Tests/Slice0.lean ====
section
/-! SUPPORT. Tests of the model against the manual's worked cases and tables, and for every statement with hypotheses a
state and operands that meet them. Expected values come from the section of spec/ that a comment names. -/

namespace Sys2Proof.Tests

open Machine

-- One proof at a time: many kernel evaluations side by side take more threads than the check allows.
set_option Elab.async false

/-! ### Small states -/

/-- The state after a command. -/
def after (c : Instr) (s : State) : State :=
  match exec c s with
  | .next t => t
  | _ => s

/-- The initialisation is over, and every lane is in a selection answered from its holder. -/
def working : State :=
  { State.reset with
    lanes := State.reset.lanes.map fun _ l => { l with selection := .holder }
    tbu := ⟨0, ⟨true, false, false⟩, .working⟩ }

/-- The same without selections. -/
def idle : State := { working with lanes := State.reset.lanes }

/-- Both pinions heard and ready at speed 1000, the drive in this state, the limits still at 0. -/
def drivingIn (d : DriveState) : State :=
  { working with
    rc := { working.rc with
      drive := d
      latest := .both (some ⟨0, 1000, true, false⟩)
      silent := .both false
      silenceTimer := .both (some 8)
      stopTimer := if d = DriveState.stopping then some 120 else none } }.retarget

/-- The drive in this state with both limits ramped up to their targets. -/
def ramped (d : DriveState) : State :=
  let s := drivingIn d
  { s with slu := { s.slu with limit := s.slu.target } }

/-- An entry of pinion A, sampled in RUN. -/
def entryA : Entry := ⟨.a, 15000, 12000, 7, true, false, .run⟩

/-- The gains of section 4.7. -/
def gains47 : GainSet := ⟨6144, 2048, true, -29491, 29491, 1⟩

/-- The computation of section 4.7. -/
def comp47 : Computation := ⟨entryA, 16384, 589824000, .zero, gains47, false⟩

/-- RUN with a computation of A in flight and lane 0 idle. -/
def computing : State :=
  let s := ramped .run
  { s with
    lanes := s.lanes.set 0 { s.lanes.get 0 with selection := .none }
    rau := ⟨some ⟨entryA, 0, 0, .zero, .default, false⟩, []⟩ }

/-- A snapshot record with this sequence number. -/
def snap (n : Nat) : Snapshot :=
  ⟨BitVec.ofNat 16 n, 0, 0, 0, 0, false, false, false, false, false, false, false, false, .run⟩

/-- A trip record with these parts of pinion A, and post-trigger part B of this length. -/
def recordOf (number pre post postB : Nat) : TripRecord :=
  { TripRecord.blank with
    number := number
    cause := .overcurrent .a
    pre := ⟨(List.range pre).map snap, []⟩
    post := ⟨(List.range post).map fun i => snap (pre + i), (List.range postB).map snap⟩ }

/-- TRIPPED, with slot 2 holding a record in this state for the current trip. -/
def trippedWith (x : SlotState) (r : TripRecord) : State :=
  let s := drivingIn .tripped
  { s with
    trc := { s.trc with
      slots := s.trc.slots.set 2 ⟨x, r⟩
      tripCount := r.number
      current := some 2
      nextSeq := ⟨BitVec.ofNat 16 (r.pre.a.length + r.post.a.length), BitVec.ofNat 16 r.post.b.length⟩
      postTimer := x == .filling } }

/-- TRIPPED, with a FILLING record of one pre-trigger record. -/
def filling : State := trippedWith .filling (recordOf 13 1 0 0)

/-- TRIPPED, with the record CLOSED. -/
def closedRecord : State := trippedWith .closed (recordOf 13 1 0 0)

/-- A change of one channel. -/
def withChannel (s : State) (c : Channel) (f : ChannelEntry → ChannelEntry) : State :=
  s.updVlu fun v => v.updChannel c f

/-- A change of one node. -/
def withNode (s : State) (c : Channel) (f : NodeEntry → NodeEntry) : State :=
  s.updScc fun n => n.setNode c (f (n.nodes.get c))

/-! ### Syntax: frames, fields, well-formedness -/

/-- Chapter 10, Table 3, note 1: NOP is sent as 0x00, 0x00, 0xB8. -/
theorem test_nop_frame : encodeFrame (.nop 0) = some [0x00, 0x00, 0xB8] := by decide +kernel

/-- Chapter 10, Table 3, notes 1 and 2: that frame with a byte behind it is NOP. -/
theorem test_nop_decodes : decodeFrame 1 ⟨0, 1, 2, 3⟩ [0x00, 0x00, 0xB8, 0x55] = .ok (.nop 1) := by decide +kernel

/-- A frame that passes every check is no BAD_FRAME. -/
theorem test_wf_refuses_good_frame : (Instr.badFrame 0 [0x00, 0x00, 0xB8]).wf = false := by decide +kernel

/-- Section 10.8: zeros alone make a frame with a bad CRC. -/
theorem test_wf_takes_zeros : (Instr.badFrame 0 [0, 0, 0]).wf = true := by decide +kernel

/-- Two words cannot start at one position. -/
theorem test_wf_refuses_standing_words : (Instr.replyWindowClose 0 [⟨50, 0⟩, ⟨50, 0⟩]).wf = false := by decide

theorem test_wf_takes_rising_words : (Instr.replyWindowClose 0 [⟨50, 0⟩, ⟨98, 0⟩]).wf = true := by decide

/-- The table gives no row bits. -/
theorem test_no_word_spells_a_command : decodeTableWord 16 0 = none := rfl

/-- Table 6: SAMPLE with and without the demand. -/
theorem test_sample_fields :
    decodePayload 0 ⟨0, 1, 2, 3⟩ .sample [0x12, 0x34, 0xFF, 0xFE, 7, 1] = some (.sample 0 0x1234 0xFFFE 7 1 none) ∧
      decodePayload 0 ⟨0, 1, 2, 3⟩ .sample [0x12, 0x34, 0xFF, 0xFE, 7, 1, 0x4E, 0x20] =
        some (.sample 0 0x1234 0xFFFE 7 1 (some 20000)) := by decide +kernel

/-- Table 6 and chapter 5, Table 3: the nineteen bytes of SET WATCH at their default values. -/
theorem test_watch_fields :
    decodePayload 2 ⟨0, 1, 2, 3⟩ .setWatch
        [0x73, 0x33, 0x00, 0x1E, 0x84, 0x80, 0x07, 0xD0, 0x06, 0x66, 6, 32, 0x01, 0x48, 0x00, 0xA4, 0x00, 0x78, 3] =
      some (.setWatch 2 29491 2000000 2000 1638 6 32 328 164 120 3) := by decide +kernel

/-- Table 6: the twelve bytes of SET LIMITS at their default values. -/
theorem test_limits_fields :
    decodePayload 2 ⟨0, 1, 2, 3⟩ .setLimits
        [0x40, 0x00, 0x60, 0x00, 0x60, 0x00, 0x33, 0x33, 0x13, 0x33, 0x00, 0xA4] =
      some (.setLimits 2 16384 24576 24576 13107 4915 164) := by decide +kernel

/-! ### Lanes (chapter 10) -/

/-- R164, R160: right after a reset a selection shifts out NOP, OK, top notice 15, HALT, no payload. -/
theorem test_first_selection : ((after (.selectionStart 3) State.reset).lanes.get 3).dataOut.take 5 = [0, 0, 15, 0, 0] := by
  decide +kernel

/-- R162: a pending lane shifts out PENDING, BUSY, RUN. -/
theorem test_pending_selection_start :
    ((after (.selectionStart 0) computing).lanes.get 0).dataOut.take 5 = [0xFE, 7, 15, 2, 0] := by decide +kernel

/-- R161: the status of a frame of zeros is BAD_CRC, and its reply kind 0xFF. -/
theorem test_bad_frame : ((after (.badFrame 3 [0, 0, 0]) working).lanes.get 3).holder = ⟨0xFF, .badCrc, .halt, []⟩ := by
  decide +kernel

/-- R162, R164: at the end of a PENDING selection the holder is not written, also where a reset cut it; the next bare
request is a whole selection again. -/
theorem test_pending_selection_end :
    let s := after (.selectionStart 0) computing
    ((after (.pendingSelection 0 [1, 2]) s).lanes.get 0).holder = (computing.lanes.get 0).holder ∧
      ((after (.pendingSelection 0 [1, 2]) s).lanes.get 0).receiver = [1, 2] ∧
      ((after (.nop 0) (after (.pendingSelection 0 []) (after .initialisationEnd (after (.resetPinRelease ⟨0, 1, 2, 3⟩)
        (after .resetPin s))))).lanes.get 0).receiver = [0x00, 0x00, 0xB8] := by decide +kernel

theorem test_nop : ((after (.nop 2) working).lanes.get 2).holder = ⟨0x00, .ok, .halt, []⟩ := by decide +kernel

/-- R167: one kind leaves the set of this lane only. -/
theorem test_ack_notice :
    let s := working.raiseAll .state
    ((after (.ackNotice 1 7) s).lanes.get 1).notices = 0 ∧ ((after (.ackNotice 1 7) s).lanes.get 2).notices = 0x80 := by
  decide +kernel

/-- R168: a masked kind asserts no attention, and is not the top notice. -/
theorem test_set_mask :
    let s := after (.setMask 1 0x80) (working.raiseAll .state)
    (s.lanes.get 1).attention = false ∧ (s.lanes.get 1).topNotice = 15 ∧ (s.lanes.get 2).topNotice = 7 := by
  decide +kernel

/-! ### Reads (chapters 3, 6, 7, 8, 10) -/

/-- R170: 26 bytes, of which the reset cause byte shows POWER_ON. -/
theorem test_read_status :
    let r := ((after (.readStatus 3) working).lanes.get 3).holder
    r.payload.length = 26 ∧ r.payload.take 3 = [3, 0, 1] := by decide +kernel

/-- R171: part code 0x0426, revision 2, lane, role, strap-conflict flag. -/
theorem test_read_ident :
    ((after (.readIdent 2) working).lanes.get 2).holder.payload = [0x04, 0x26, 2, 2, 2, 0] := by decide +kernel

/-- R55, Table 6: the settings page after a reset. -/
theorem test_read_limits_settings :
    ((after (.readLimits 3 (some 1)) working).lanes.get 3).holder.payload =
      [0x40, 0x00, 0x60, 0x00, 0x60, 0x00, 0x33, 0x33, 0x13, 0x33, 0x00, 0xA4] := by decide +kernel

/-- Table 6, R54: 27 bytes; with no enabled channel both V_k sources are 255; with channel 5 of group B enabled and UNKNOWN
V_B's is 5 with bit 7 set, but none where D is 32767. -/
theorem test_read_limits_state :
    let derating := withChannel working 5 fun c => { c with config := { c.config with enabled := true, group := .b } }
    let page (s : State) := ((after (.readLimits 3 none) s).lanes.get 3).holder.payload
    (page working).length = 27 ∧ ((page working).drop 21).take 2 = [255, 255] ∧
      ((page derating).drop 21).take 2 = [255, 0x85] ∧
      ((page { derating with slu := { derating.slu with derate := 32767 } }).drop 21).take 2 = [255, 255] := by
  decide +kernel

/-- R132, Table 6: channel 7 for a byte above 7; group COMMON in bits 2..3; the window settings 2, 3, 2, 5. -/
theorem test_read_channel :
    let r := ((after (.readChannel 3 200) working).lanes.get 3).holder.payload
    r.length = 27 ∧ r.take 2 = [7, 0x08] ∧ r.drop 25 = [0x23, 0x25] := by decide +kernel

/-- R115, Table 6: position 2 after a reset has P_nom and E 144; no last result. -/
theorem test_read_node :
    let r := ((after (.readNode 3 2) working).lanes.get 3).holder.payload
    r.length = 22 ∧ r.take 8 = [2, 0, 255, 255, 0, 144, 0, 144] ∧ r[19]? = some 0 := by decide +kernel

/-- R145: a FREE slot is EMPTY; the index has 20 bytes. -/
theorem test_read_trip_summary :
    ((after (.readTripSummary 3 0 none) working).lanes.get 3).holder.status = .empty ∧
      ((after (.readTripSummary 3 8 none) working).lanes.get 3).holder.payload.length = 20 := by decide +kernel

/-- R145: the plant's read of a CLOSED record marks it READ, a monitor's does not. -/
theorem test_read_trip_summary_marks :
    ((after (.readTripSummary 2 2 none) closedRecord).trc.slots.get 2).state = .read ∧
      ((after (.readTripSummary 3 2 none) closedRecord).trc.slots.get 2).state = .closed ∧
      ((after (.readTripSummary 3 2 none) closedRecord).lanes.get 3).holder.payload.length = 27 := by decide +kernel

/-! ### Cursors (section 9.5) -/

/-- Table 2, step 1: index 60 is not below the count of 49 and is taken as 48. -/
theorem test_set_cursor_clamps :
    let s := after (.setCursor 3 2 0 60 0) (trippedWith .filling (recordOf 13 48 1 0))
    (s.lanes.get 3).cursor = .fetching ⟨2, 13, .a, 48, .up⟩ ∧
      (s.lanes.get 3).holder = ⟨0x07, .accepted, .tripped, [2, 0, 0, 48, 0, 13, 1, 49]⟩ := by decide +kernel

/-- A cursor of lane 3 on the record of `filling`. -/
def fetchingState : State :=
  { filling with lanes := filling.lanes.set 3 { filling.lanes.get 3 with cursor := .fetching ⟨2, 13, .a, 0, .up⟩ } }

/-- The same after its fetch. -/
def fetchedState : State :=
  { filling with
    lanes := filling.lanes.set 3 { filling.lanes.get 3 with cursor := .fetched ⟨2, 13, .a, 0, .up⟩ (snap 0) } }

/-- Table 2, step 3: FETCH_DONE on this lane. -/
theorem test_fetch_completion :
    (after (.fetchCompletion 3) fetchingState).lanes.get 3 =
      { fetchedState.lanes.get 3 with notices := 0x10 } := by decide +kernel

/-- Table 2, step 7: UP wraps at the count; section 9.5: DOWN from 0 goes to count - 1. -/
theorem test_step_wraps : stepIndex .up 49 50 = 0 ∧ stepIndex .up 48 50 = 49 ∧ stepIndex .down 0 50 = 49 := by decide

/-- Table 2, step 2: WAIT while the fetch runs; step 15: NO_CURSOR. -/
theorem test_read_next :
    ((after (.readNext 3) fetchingState).lanes.get 3).holder = ⟨0x08, .wait, .tripped, [2, 0, 0]⟩ ∧
      ((after (.readNext 3) filling).lanes.get 3).holder = ⟨0x08, .noCursor, .tripped, []⟩ := by decide +kernel

/-- Table 2, step 14: GONE with slot 2 and trip 13, and the cursor is IDLE after it. -/
theorem test_read_next_gone :
    let s := { filling with
      lanes := filling.lanes.set 3 { filling.lanes.get 3 with cursor := .gone ⟨2, 13, .a, 1, .up⟩ } }
    (after (.readNext 3) s).lanes.get 3 =
      { filling.lanes.get 3 with
        selection := .none, receiver := requestFrame .readNext [], holder := ⟨0x08, .gone, .tripped, [2, 0, 13]⟩ } := by
  decide +kernel

/-! ### Samples, split and regulation (chapters 1, 2, 4, 5) -/

/-- R10, R11: a SAMPLE in HALT clears the silent mark and starts the silence timer of code 3, 8 ms. -/
theorem test_sample_is_heard :
    let s := after (.sample 0 100 200 5 1 none) working
    s.rc.silent.get .a = false ∧ s.rc.silenceTimer.get .a = some 8 ∧ s.rc.silent.get .b = true := by decide +kernel

/-- Section 5.7, note 2: the sum 2,003,344 saturates at 2,000,000 and trips with OVERLOAD(A). -/
theorem test_sample_overload :
    let s := { ramped .run with dwu := { DriveWatch.reset with ol := ⟨1999248, 0⟩ } }
    let t := after (.sample 0 28672 1000 1 1 none) s
    t.rc.drive = .tripped ∧ t.dwu.ol.a = 2000000 ∧ (t.trc.slots.get 0).record.cause = .overload .a ∧
      (t.trc.slots.get 0).record.value = 2000000 := by decide +kernel

/-- Section 2.6, steps 4, 10 and 13. -/
theorem test_split :
    (splitRaw 20000 655 .a, splitRaw 20000 655 .b) = (20400, 19600) ∧
      (splitRaw 32000 3277 .a, splitRaw 32000 3277 .b) = (32767, 28800) ∧
      (splitRaw 10000 3277 .a, splitRaw 10000 3277 .b) = (11000, 9000) := by decide +kernel

/-- Section 5.8, arrivals 3 and 15, and note 1. -/
theorem test_imbalance_filter :
    filterStep 93000 3000 4 = 135187 ∧ filterStep 456853 3000 4 = 476299 ∧ imbalanceLevel 476299 = 1860 ∧
      imbalanceLevel 413985 = 1617 := by decide +kernel

/-- Section 4.7: the nominal computation. -/
theorem test_pi_nominal : comp47.newAcc = 592658432 ∧ comp47.vDem = 23119 ∧ comp47.newSat = .zero := by decide +kernel

/-- Section 4.7: the negative companion, and the two accumulators of its last paragraph. -/
theorem test_pi_negative :
    (⟨⟨.a, -15000, -12000, 7, true, false, .run⟩, -16384, -589824000, .zero, gains47, false⟩ : Computation).vDem = -23119 ∧
      piIntegral (-592674816) = -9043 ∧ piIntegral 592674816 = 9044 := by decide +kernel

/-- Section 4.8: computations 2 and 3. -/
theorem test_pi_held :
    let c : Computation := ⟨⟨.a, 15500, 19900, 7, true, false, .run⟩, 16384, 592658432, .high, gains47, false⟩
    let d : Computation := ⟨⟨.a, 16900, 19900, 7, true, false, .run⟩, 16384, 592658432, .high, gains47, false⟩
    (c.newAcc, c.vDem, c.newSat) = (592658432, 29491, .high) ∧ (d.newAcc, d.vDem, d.newSat) = (591601664, 28153, .zero) := by
  decide +kernel

/-- Section 4.9: the saturated error, and the clamped accumulator. -/
theorem test_pi_bounds :
    let c : Computation := ⟨⟨.b, -20000, 0, 7, true, false, .run⟩, 16384, 0, .zero, gains47, false⟩
    let d : Computation :=
      ⟨⟨.b, -32768, 0, 7, true, false, .run⟩, 0, 2147000000, .zero, ⟨4096, 65535, false, -29491, 29491, 1⟩, false⟩
    (c.newAcc, c.vDem, c.newSat) = (67106816, 29491, .high) ∧ (d.newAcc, d.vDem, d.newSat) = (2147418112, 29491, .high) := by
  decide +kernel

/-- R73: the completion writes the accumulator and the reply of pinion A. -/
theorem test_computation_completion :
    let s := { ramped .run with rau := ⟨some comp47, []⟩ }
    (after .computationCompletion s).crg.acc.a = 592658432 ∧
      (((after .computationCompletion s).lanes.get 0).holder.payload.take 2 = [0x5A, 0x4F]) ∧
      (after .computationCompletion s).rau = ⟨none, []⟩ := by decide +kernel

/-- R19: the mark of the lane's own pinion. -/
theorem test_ack_trip : (after (.ackTrip 1) filling).rc.ack = ⟨false, true⟩ := by decide +kernel

/-- R18, R139: TRIP from lane 0 in HALT takes slot 0 as trip 1. -/
theorem test_trip :
    let t := after (.trip 0) working
    t.rc.drive = .tripped ∧ (t.trc.slots.get 0).state = .filling ∧ (t.trc.slots.get 0).record.number = 1 ∧
      (t.trc.slots.get 0).record.cause = .commanded 0 ∧ (t.lanes.get 3).notices = 0x81 := by decide +kernel

/-! ### Run control (chapter 1) -/

theorem test_arm : (after (.arm 2) working).rc.drive = .ready := by decide +kernel

/-- R3: an enabled channel with trip-on-loss and an ABSENT node. -/
theorem test_arm_chain_incomplete :
    let s := withChannel working 4 fun c => { c with config := { c.config with enabled := true, tripOnLoss := true } }
    ((after (.arm 2) s).lanes.get 2).holder.status = .chainIncomplete ∧ (after (.arm 2) s).rc.drive = .halt := by
  decide +kernel

theorem test_disarm : (after (.disarm 2) (drivingIn .ready)).rc.drive = .halt := by decide +kernel

/-- R5, R39, R38: START raises the targets to L_plant, and the limits stay at 0. -/
theorem test_start :
    let t := after (.start 2) (drivingIn .ready)
    t.rc.drive = .run ∧ t.slu.target = .both 16384 ∧ t.slu.limit = .both 0 := by decide +kernel

/-- R5: a silent pinion refuses START. -/
theorem test_start_silent :
    ((after (.start 2) (after (.silenceTimerExpiry .b) (drivingIn .ready))).lanes.get 2).holder.status = .notReady := by
  decide +kernel

theorem test_inch : (after (.inch 2) (drivingIn .ready)).slu.target = .both 4915 := by decide +kernel

/-- R6: the stop timer takes the stop timeout in force. -/
theorem test_stop : (after (.stop 2) (ramped .run)).rc.stopTimer = some 120 := by decide +kernel

/-- R20: FILLING comes first; with the record closed the marks are missing. -/
theorem test_clear_trip_refused :
    ((after (.clearTrip 2) filling).lanes.get 2).holder.status = .filling ∧
      ((after (.clearTrip 2) closedRecord).lanes.get 2).holder.status = .notReady := by decide +kernel

/-- R20, R21: with both pinions acknowledged and no current the drive goes to HALT, the marks clear. -/
theorem test_clear_trip :
    let t := after (.clearTrip 2) { closedRecord with rc := { closedRecord.rc with ack := .both true } }
    t.rc.drive = .halt ∧ t.rc.ack = .both false := by decide +kernel

/-! ### Settings (chapters 2 to 7, 11) -/

/-- R43: lowering L_plant below the limits makes both fall at once, with LIMIT on the pinion lanes. -/
theorem test_set_limits :
    let t := after (.setLimits 2 10000 24576 24576 9000 4915 164) (ramped .run)
    t.slu.limit = .both 10000 ∧ (t.lanes.get 0).notices = 0x08 ∧ (t.lanes.get 2).notices = 0 := by decide +kernel

/-- R53: D above L_plant is refused. -/
theorem test_set_limits_range :
    ((after (.setLimits 2 10000 24576 24576 10001 4915 164) working).lanes.get 2).holder.status = .range := by
  decide +kernel

/-- R58, R61: in regulation the set is staged for both channels with set number 1. -/
theorem test_set_gains :
    let t := after (.setGains 2 6144 2048 1 (-29491) 29491) (ramped .run)
    t.crg.staged = some ⟨gains47, .both true⟩ ∧ t.crg.applied = .both .default ∧ t.crg.lastSet = 1 := by decide +kernel

/-- R59: u_min above 0 is refused. -/
theorem test_set_gains_range :
    ((after (.setGains 2 6144 2048 1 1 29491) working).lanes.get 2).holder.status = .range := by decide +kernel

/-- Section 2.6, step 9: the offset 5000 is clamped to 3277. -/
theorem test_set_share :
    (after (.setShare 2 0 5000) working).slu.offset = 3277 ∧ (after (.setShare 2 7 0) working).slu.lead = .b := by
  decide +kernel

/-- R85: a sum at the new Q trips with OVERLOAD(B), value and limit the new Q. -/
theorem test_set_watch_trips :
    let s := { ramped .run with dwu := { DriveWatch.reset with ol := ⟨599999, 700000⟩ } }
    let t := after (.setWatch 2 29491 600000 2000 1638 6 32 328 164 120 3) s
    t.rc.drive = .tripped ∧ t.dwu.ol = ⟨599999, 600000⟩ ∧ (t.trc.slots.get 0).record.cause = .overload .b ∧
      (t.trc.slots.get 0).record.limit = 600000 := by decide +kernel

/-- Chapter 5, Table 3: the bounds of the settings. -/
theorem test_set_watch_bounds :
    (after (.setWatch 2 65535 0 1 1 0 0 65535 65535 0 9) working).dwu.watch = ⟨32768, 1, 1, 1, 4, 1, 32768, 32768, 1, 7⟩ := by
  decide +kernel

/-- R117, R128: enabling a channel whose state is UNKNOWN makes V_k D and the limits fall. -/
theorem test_set_channel :
    let t := after (.setChannel 2 5 1 1 4000 8000 400 0) (ramped .run)
    t.slu.limit = ⟨16384, 13107⟩ ∧ (t.vlu.channels.get 5).config.group = .b := by decide +kernel

/-- R117: alert not below danger is refused. -/
theorem test_set_channel_range :
    ((after (.setChannel 2 5 1 1 8000 8000 400 0) working).lanes.get 2).holder.status = .range := by decide +kernel

/-- R113, R119: codes and counts out of range. -/
theorem test_set_chain :
    ((after (.setChain 2 9 9 0 99 5) working).lanes.get 2).holder.payload = [2, 4, 1, 15, 5] := by decide +kernel

/-- R108, R109: count 0 is taken as 1; a second DISCOVER is BUSY. -/
theorem test_discover :
    let s := after (.discover 2 0) working
    (s.lanes.get 2).holder = ⟨0x2C, .accepted, .halt, [1]⟩ ∧ s.scc.discovery = some ⟨1, .clear false, 0⟩ ∧
      ((after (.discover 2 4) s).lanes.get 2).holder.status = .busy := by decide +kernel

/-- R146: a CLOSED record is freed, a FILLING one is not. -/
theorem test_release :
    ((after (.release 2 2) closedRecord).trc.slots.get 2).state = .free ∧
      ((after (.release 2 2) filling).lanes.get 2).holder.status = .filling := by decide +kernel

theorem test_set_time : (after (.setTime 2 0x01020304) working).tbu.time = 0x01020304 := by decide +kernel

/-- R165: only the first refusal is captured until it is cleared. -/
theorem test_capture :
    let s := after (.arm 3) working
    s.capture = some ⟨3, 0x20, 0⟩ ∧ (after (.disarm 0) s).capture = s.capture ∧
      (after (.clearCapture 2) s).capture = none ∧ (s.lanes.get 2).notices = 0x40 := by decide +kernel

theorem test_clear_causes : (after (.clearCauses 2) working).tbu.causes = ⟨false, false, false⟩ := by decide +kernel

/-! ### Resets (chapter 11) -/

/-- R175: the causes gain PLANT_RESET; a FILLING record is closed with CUT_SHORT (R149). -/
theorem test_reset :
    let t := after (.reset 2 ⟨0, 1, 2, 3⟩) filling
    t.tbu = ⟨0, ⟨true, false, true⟩, .initialising⟩ ∧ t.rc.drive = .halt ∧ (t.trc.slots.get 2).state = .closed ∧
      (t.trc.slots.get 2).record.cutShort = true ∧ t.trc.tripCount = 13 := by decide +kernel

/-- R175: refused outside HALT and TRIPPED. -/
theorem test_reset_refused :
    ((after (.reset 2 ⟨0, 1, 2, 3⟩) (ramped .run)).lanes.get 2).holder.status = .badState := by decide +kernel

/-- R174, R148: power-on empties the trip table and leaves POWER_ON alone. -/
theorem test_power_on :
    let t := after (.powerOn ⟨0, 1, 2, 3⟩ false) filling
    t.tbu = ⟨0, ⟨true, false, false⟩, .initialising⟩ ∧ t.trc = .powerOn := by decide +kernel

/-- R176, R174: the causes gain RESET_PIN, and the part is held. -/
theorem test_reset_pin :
    (after .resetPin working).tbu = ⟨0, ⟨true, true, false⟩, .held⟩ ∧
      (after .resetPin { working with tbu := ⟨5, ⟨false, false, false⟩, .working⟩ }).tbu =
        ⟨0, ⟨false, true, false⟩, .held⟩ := by decide +kernel

/-- R158: of two lanes strapped PLANT the lower takes the role, and the other is MONITOR with the flag. R164, R176: bytes
shifted in while the pin was low are gone. -/
theorem test_reset_pin_release :
    let t := after (.resetPinRelease ⟨2, 2, 1, 0⟩) (after (.badFrame 2 [1, 2]) (after .resetPin working))
    (t.lanes.get 2).receiver = [] ∧
    ((t.lanes.get 0).role, (t.lanes.get 0).conflict) = (.plant, false) ∧
      ((t.lanes.get 1).role, (t.lanes.get 1).conflict) = (.monitor, true) ∧ (t.lanes.get 2).role = .pinionB ∧
      t.tbu.phase = .initialising := by decide +kernel

/-- R176: STATE on every lane at the end of the initialisation. -/
theorem test_initialisation_end :
    let t := after .initialisationEnd State.reset
    t.tbu.phase = .working ∧ (t.lanes.get 0).notices = 0x80 ∧ (t.lanes.get 3).notices = 0x80 := by decide +kernel

/-! ### Timers (chapters 1, 3, 5, 8, 11) -/

/-- R172: the count wraps. -/
theorem test_time_count :
    (after .timeCountAdvance { working with tbu := ⟨0xFFFFFFFF, ⟨true, false, false⟩, .working⟩ }).tbu.time = 0 := by
  decide +kernel

/-- R45, R84: a limit steps by R = 164; the sums lose 2000, not below 0. -/
theorem test_ramp_tick :
    let s := { drivingIn .run with dwu := { DriveWatch.reset with ol := ⟨40960, 1999⟩ } }
    (after .rampTick s).slu.limit = .both 164 ∧ (after .rampTick s).dwu.ol = ⟨38960, 0⟩ := by decide +kernel

/-- R12: in RUN the expiry trips with LANE_SILENT, value and limit the period. -/
theorem test_silence_trips :
    let t := after (.silenceTimerExpiry .b) (ramped .run)
    (t.trc.slots.get 0).record.cause = .laneSilent .b ∧ (t.trc.slots.get 0).record.value = 8 := by decide +kernel

/-- R8: STOP_TIMEOUT with the larger speed and the zero-speed band. -/
theorem test_stop_timeout :
    let t := after .stopTimerExpiry (ramped .stopping)
    (t.trc.slots.get 0).record.cause = .stopTimeout ∧ (t.trc.slots.get 0).record.value = 1000 ∧
      (t.trc.slots.get 0).record.limit = 164 := by decide +kernel

/-- R144: the record closes, with RECORD_CLOSED on every lane. -/
theorem test_post_trip_timer :
    let t := after .postTripTimerExpiry filling
    (t.trc.slots.get 2).state = .closed ∧ (t.lanes.get 1).notices = 0x02 ∧ t.trc.postTimer = false := by decide +kernel

/-! ### Sensor chain and vibration (chapters 6 and 7) -/

/-- Chapter 6, Table 2: a poll with span none and mark clear. -/
theorem test_poll_word : pollWord 15 8 = 0b11111110001 := by decide +kernel

/-- R96, R109: the first round of a discovery sends the mark "clear" over no span. -/
theorem test_round_start :
    let t := after .roundStart (after (.discover 2 4) working)
    t.scc.poll = some 0b11111110001 ∧ t.scc.discovery = some ⟨4, .clear true, 0⟩ := by decide +kernel

/-- R98: the two sample words of its example pass, and not with the parity bit turned. -/
theorem test_word_parity :
    passesCheck samplePattern 0b1001100011001001 = true ∧ passesCheck samplePattern 0b1010110110101001 = true ∧
      passesCheck samplePattern 0b1001100011001000 = false ∧ passesCheck identityPattern 0b1001100011001001 = false := by
  decide +kernel

/-- R99: their values, 100 × 8 and -300 × 32. -/
theorem test_word_value :
    sampleValue 0b1001100011001001 = 800 ∧ sampleValue 0b1010110110101001 = -9600 := by decide +kernel

/-- The node of section 6.8 before round 2, in a round that polls it. -/
def tracking : State :=
  let s := withNode working 2 fun e => { e with state := .locked, expected := 145 }
  let s := withChannel s 2 fun c => { c with config := { c.config with enabled := true } }
  { s with scc := { s.scc with round := some ⟨[2], none⟩ } }

/-- Section 6.8, rounds 2 and 1: 149 lies outside 142..148, and 146 inside. -/
theorem test_window_tracks :
    let t := after (.replyWindowClose 2 [⟨149, 0b1001100011001001⟩]) tracking
    let u := after (.replyWindowClose 2 [⟨146, 0b1001100011001001⟩]) tracking
    t.scc.nodes.get 2 = ⟨.locked, none, 146, 1, 0, 1⟩ ∧ u.scc.nodes.get 2 = ⟨.locked, none, 145, 0, 0, 0⟩ ∧
      (u.vlu.channels.get 2).s1 = 800 ∧ (t.vlu.channels.get 2).subs = 1 := by decide +kernel

/-- Section 6.9, round 16 after the jump: E 161 becomes 162, and the node is LOST. -/
theorem test_window_loses :
    let s := withNode tracking 2 fun e => { e with expected := 161, miss := 15 }
    let t := after (.replyWindowClose 2 [⟨166, 0b1001100011001001⟩]) s
    t.scc.nodes.get 2 = ⟨.lost, none, 162, 16, 0, 1⟩ ∧ (t.vlu.channels.get 2).state = .unknown := by decide +kernel

/-- R110: a node with an answered mark takes its position at the next mark (R100). -/
theorem test_node_conduct :
    (Node.hear ⟨none, some 3, 77⟩ (pollWord 15 4)).1 = ⟨some 3, none, 77⟩ ∧
      (Node.hear ⟨none, none, 77⟩ (pollWord 15 4)).2 = (pollWord 15 15, .identity 4 77) := by decide +kernel

/-- Section 7.9: the two windows, and the second with the signs turned. -/
theorem test_level :
    (⟨3200, 5920000, 0, 0⟩ : LevelComputation).rms = 300 ∧ (⟨2000, 5800000, 4, 0⟩ : LevelComputation).rms = 299 ∧
      (⟨-2000, 5800000, 4, 0⟩ : LevelComputation).rms = 299 := by decide +kernel

/-- Section 7.9: SUSPECT from 17 substitutions of 64. -/
theorem test_suspect :
    (⟨0, 0, 16, 0⟩ : LevelComputation).suspect = false ∧ (⟨0, 0, 17, 0⟩ : LevelComputation).suspect = true := by
  decide +kernel

/-- The configuration of channel 5 in section 7.10. -/
def config710 : ChannelConfig := ⟨true, .b, 4000, 8000, 400, false⟩

/-- Channel 5 in a state of section 7.10. -/
def channel710 (x : ChannelState) (r : RunCounters) : ChannelEntry :=
  { ChannelEntry.reset config710 with state := x, runs := r }

/-- Section 7.10, windows 4, 6, 7, 12 and 18. -/
theorem test_channel_states :
    let v := Vibration.reset (.const .default)
    (v.goodWindow (channel710 .normal ⟨2, 0, 0, 3⟩) 4100).state = .alert ∧
      (v.goodWindow (channel710 .alert ⟨4, 1, 0, 0⟩) 8600).state = .danger ∧
      (v.goodWindow (channel710 .danger ⟨5, 2, 0, 0⟩) 7800) = channel710 .danger ⟨6, 0, 0, 0⟩ ∧
      (v.goodWindow (channel710 .danger ⟨10, 0, 0, 4⟩) 4500) = channel710 .alert ⟨11, 0, 0, 5⟩ ∧
      (v.goodWindow (channel710 .alert ⟨0, 0, 4, 9⟩) 3000) = channel710 .normal ⟨0, 0, 5, 10⟩ := by decide +kernel

/-- RUN with channel 5 one window away from DANGER: the window of rms 8600. -/
def nearDanger : State :=
  (withChannel (ramped .run) 5 fun c =>
    { c with config := config710, state := .alert, runs := ⟨4, 1, 0, 0⟩, computation := some ⟨0, 4733440000, 0, 0⟩ }).retarget

/-- Section 7.10, window 6: VIB_DANGER(5) with value 8600 and limit 8000; the header shows DANGER. -/
theorem test_level_completion_trips :
    let t := after (.levelComputationCompletion 5) nearDanger
    (t.trc.slots.get 0).record.cause = .vibDanger 5 ∧ (t.trc.slots.get 0).record.value = 8600 ∧
      (t.trc.slots.get 0).record.limit = 8000 ∧ (t.trc.slots.get 0).record.channels.get 5 = .danger := by decide +kernel

/-! ### Trip recorder (chapter 8) -/

/-- Section 8.7: the later causes of Table 5 in their order. -/
theorem test_later_causes :
    let offered : List Cause := [.bridgeFault .b, .overcurrent .a, .overload .a, .bridgeFault .b, .chainLoss 2,
      .commanded 2, .overload .b, .vibDanger 5]
    let r := offered.foldl TripRecord.offer (recordOf 13 0 0 0)
    r.later = [.bridgeFault .b, .overload .a, .chainLoss 2, .commanded 2] ∧ r.more = true := by decide +kernel

/-- The table of section 8.8 with slot 6 in this state. -/
def table88 (x : SlotState) : Recorder :=
  let c (n : Nat) : Slot := ⟨.closed, recordOf n 0 0 0⟩
  { Recorder.powerOn with
    slots := ⟨c 1, c 2, c 3, ⟨.read, recordOf 4 0 0 0⟩, c 5, ⟨.read, recordOf 6 0 0 0⟩, ⟨x, recordOf 7 0 0 0⟩, c 8⟩ }

/-- Section 8.8: the FREE slot first, then the READ slot with the lowest trip number. -/
theorem test_choose_slot :
    (table88 .free).chooseSlot = some 6 ∧ (table88 .closed).chooseSlot = some 3 := by decide +kernel

/-- Section 8.6: the 16th append fills both parts and closes the record. -/
theorem test_record_closes :
    let s := trippedWith .filling (recordOf 13 1 15 16)
    let t := after (.sample 0 0 0 9 1 none) s
    (t.trc.slots.get 2).state = .closed ∧ (t.trc.slots.get 2).record.post.a.length = 16 ∧
      (t.lanes.get 3).notices = 0x02 := by decide +kernel

/-! ### Witnesses: for every statement with hypotheses, a state and operands that meet them

Each theorem is named after its statement; a conjunct is one clause's hypotheses. -/

/-- `Takes` on a concrete state. -/
theorem takes {s : State} {lane : Lane} {kind : RequestKind} (h : takesCheck s lane kind = true) : Takes s lane kind :=
  (takes_iff s lane kind).2 h

theorem limits {s : State} (h : limitCheck s = true) : LimitLaw s := (limitLaw_iff s).2 h

theorem witness_StepTakesFrontCommand :
    (∃ (c : Instr) (rest : List Instr), ({ working with pending := [.rampTick, .nop 2] } : State).pending = c :: rest) ∧
      working.pending = [] := ⟨⟨_, _, rfl⟩, rfl⟩

theorem witness_SelectionStartFixesFrame : computing.lanePending 0 = true ∧ idle.lanePending 0 = false := by
  decide +kernel

theorem witness_BadFrameReply : (working.lanes.get 3).selection = .holder ∧ FrameFails [0x00] .badLength ∧
    FrameFails [0x00, 25, 1] .badLength ∧ FrameFails [0x09, 1, 7] .badLength ∧ FrameFails [0, 0, 0] .badCrc ∧
    FrameFails ([0x32, 0] ++ [crc8 [0x32, 0]]) .badLength ∧ FrameFails ([0x00, 1, 9] ++ [crc8 [0x00, 1, 9]]) .badLength ∧
    encodeFrame (.nop 0) = some [0x00, 0x00, 0xB8] :=
  ⟨by decide, .one _, .long _ _ _ (by decide), .short _ _ _ (by decide) (by decide),
    .crc 0 0 [] [] 0 (by decide) rfl (by decide +kernel),
    .kind 0x32 0 [] [] (by decide) rfl (by intro k h; cases k <;> revert h <;> decide),
    .kind 0x00 1 [9] [] (by decide) rfl (by intro k h; cases k <;> revert h <;> decide), by decide +kernel⟩

/-- Lane 0 of `computing` in a PENDING selection, and lane 2 of it in a selection cut by a reset. -/
def cutSelections : State :=
  { computing with
    lanes := (computing.lanes.set 0 { computing.lanes.get 0 with selection := .pendingReply }).set 2
      { computing.lanes.get 2 with selection := .dead } }

theorem witness_PendingAndDeadSelectionsTakeNothing :
    (cutSelections.lanes.get 0).selection = .pendingReply ∧ (working.lanes.get 3).selection = .holder ∧
      (requestLane (.sample 0 1 2 3 1 none) = some 0 ∧
        encodePayload (.sample 0 1 2 3 1 none) = some (.sample, [0, 1, 0, 2, 3, 1])) ∧
      (requestLane (.arm 2) = some 2 ∧ encodePayload (.arm 2) = some (.arm, []) ∧
        (cutSelections.lanes.get 2).selection = .dead) := by decide +kernel

/-- Lane 1 of `idle`, answered from its holder, and lane 0 of `computing`, which is pending; bytes that fail a check. -/
theorem witness_SelectionEndStartsItsSelection :
    requestLane (.nop 1) = some 1 ∧ FrameFails [0x00] .badLength ∧ (idle.lanes.get 1).selection = .none ∧
      exec (.selectionStart 1) idle = .next (idle.startSelection 1) ∧
      ((idle.startSelection 1).lanes.get 1).selection = .holder ∧ (computing.lanes.get 0).selection = .none ∧
      exec (.selectionStart 0) computing = .next (computing.startSelection 0) ∧
      ((computing.startSelection 0).lanes.get 0).selection ≠ .holder :=
  ⟨rfl, .one _, by decide, rfl, by decide +kernel, by decide +kernel, rfl, by decide +kernel⟩

/-- The initialisation runs, and lane 1 is in a selection. -/
def starting : State := { working with tbu := { working.tbu with phase := .initialising } }

theorem witness_InitialisationRefuses :
    requestLane (.nop 1) = some 1 ∧ encodePayload (.nop 1) = some (.nop, []) ∧ starting.tbu.phase = .initialising ∧
      (starting.lanes.get 1).selection = .holder ∧ RequestKind.nop ≠ .readStatus ∧ RequestKind.nop ≠ .readIdent := by
  decide +kernel

/-- The refusal capture is full. -/
def captured : State := { working with capture := some ⟨0, 0x20, 5⟩ }

theorem witness_NotPermittedRefusal :
    requestLane (.arm 3) = some 3 ∧ encodePayload (.arm 3) = some (.arm, []) ∧
      (working.tbu.phase = .working ∧ (working.lanes.get 3).selection = .holder ∧
        RequestKind.arm.permitted (working.lanes.get 3).role = false ∧ working.capture = none) ∧
      (captured.tbu.phase = .working ∧ (captured.lanes.get 3).selection = .holder ∧
        RequestKind.arm.permitted (captured.lanes.get 3).role = false ∧ captured.capture ≠ none) := by decide +kernel

theorem witness_NopAckNoticeAndSetMask :
    Takes working 3 .nop ∧ Takes working 3 .setMask ∧ Takes (working.raiseAll .state) 3 .ackNotice :=
  ⟨takes (by decide), takes (by decide), takes (by decide +kernel)⟩

theorem witness_MonitorIsolation :
    requestLane (.arm 3) = some 3 ∧ (working.lanes.get 3).role = .monitor ∧ (working.lanes.get 3).selection ≠ .none ∧
      exec (.arm 3) working = .next (after (.arm 3) working) ∧ (after (.arm 3) working).capture ≠ working.capture :=
  ⟨rfl, by decide, by decide, rfl, by decide +kernel⟩

theorem witness_ReadStatusAndIdentReplies : TakesAlways working 3 ∧ TakesAlways starting 0 :=
  ⟨⟨by decide, by decide⟩, ⟨by decide +kernel, by decide +kernel⟩⟩

theorem witness_ReadLimitsReply : Takes working 3 .readLimits := takes (by decide)

/-- Byte 7 and byte 255 both name channel 7. -/
theorem witness_ReadChannelReply : VibrationLaw working ∧ Takes working 3 .readChannel ∧
    (7 : Channel).val = min (7 : Byte).toNat 7 ∧ (7 : Channel).val = min (255 : Byte).toNat 7 :=
  ⟨(vibrationLaw_iff _).2 (by decide +kernel), takes (by decide), by decide, by decide⟩

/-- With a found count, and without. -/
theorem witness_ReadNodeReply : Takes working 3 .readNode ∧ (0 : Fin 8).val = min (0 : Byte).toNat 7 ∧
    ({ SensorChain.reset with lastResult := .foundOf 3 4 }).lastResult = .foundOf 3 4 :=
  ⟨takes (by decide), by decide, rfl⟩

theorem witness_ReadTripSummaryReply :
    Takes closedRecord 2 .readTripSummary ∧ Takes closedRecord 3 .readTripSummary ∧
      ((2 : Byte) = byteOf (2 : Fin 8).val ∧ (closedRecord.trc.slots.get 2).state ≠ .free) ∧ 8 < (9 : Byte).toNat ∧
      ((7 : Byte) = byteOf (7 : Fin 8).val ∧ (closedRecord.trc.slots.get 7).state = .free) :=
  ⟨takes (by decide +kernel), takes (by decide +kernel), by decide +kernel, by decide, by decide +kernel⟩

/-- Pinion A has one record in slot 2 and pinion B none, and slot 7 is FREE. -/
theorem witness_SetCursorAndItsFetch :
    Takes filling 3 .setCursor ∧
      ((2 : Byte) = byteOf (2 : Fin 8).val ∧ (filling.trc.slots.get 2).state ≠ .free ∧
        0 < ((filling.trc.slots.get 2).record.pre.get .a).length + ((filling.trc.slots.get 2).record.post.get .a).length) ∧
      7 < (8 : Byte).toNat ∧ (filling.trc.slots.get 7).state = .free ∧
      (filling.trc.slots.get 2).record.snapshots (if (1 : Byte) = 0 then .a else .b) = [] :=
  ⟨takes (by decide +kernel), by decide +kernel, by decide, by decide +kernel, by decide +kernel⟩

theorem witness_ReadNextByCursorState : Takes filling 3 .readNext ∧ Takes fetchingState 3 .readNext ∧
    Takes fetchedState 3 .readNext :=
  ⟨takes (by decide +kernel), takes (by decide +kernel), takes (by decide +kernel)⟩

theorem witness_SetCursorAndItsFetch_completion :
    ((fetchingState.lanes.get 3).cursor = .fetching ⟨2, 13, .a, 0, .up⟩ ∧
      ((fetchingState.trc.slots.get 2).record.snapshots .a)[0]? = some (snap 0)) ∧
      ∀ p, (fetchedState.lanes.get 3).cursor ≠ .fetching p :=
  ⟨by decide +kernel, by intro p h; cases h⟩

theorem witness_BadStateRefusals :
    (Takes (drivingIn .ready) 2 .arm ∧ (drivingIn .ready).rc.drive ≠ .halt) ∧
      (Takes working 2 .disarm ∧ Takes working 2 .start ∧ Takes working 2 .inch ∧ Takes working 2 .stop ∧
        Takes working 2 .clearTrip ∧ Takes working 0 .ackTrip ∧ working.rc.drive = .halt) ∧
      (Takes (ramped .inch) 2 .discover ∧ Takes (ramped .inch) 2 .reset ∧ (ramped .inch).rc.drive = .inch) :=
  ⟨⟨takes (by decide +kernel), by decide +kernel⟩,
    ⟨takes (by decide), takes (by decide), takes (by decide), takes (by decide), takes (by decide), takes (by decide),
      by decide⟩,
    ⟨takes (by decide +kernel), takes (by decide +kernel), by decide +kernel⟩⟩

theorem witness_AckTripSetsMark :
    Takes filling 1 .ackTrip ∧ (filling.lanes.get 1).role = pinionRole .b ∧ filling.rc.drive = .tripped :=
  ⟨takes (by decide +kernel), by decide +kernel, by decide +kernel⟩

/-- From RUN with a computation in flight, and in TRIPPED. -/
theorem witness_TripRequestEntersTripped :
    (RauLaw computing ∧ Takes computing 2 .trip ∧ computing.rc.drive ≠ .tripped) ∧
      (RauLaw filling ∧ Takes filling 2 .trip ∧ filling.rc.drive = .tripped) :=
  ⟨⟨rauLaw_of_check _ (by decide +kernel), takes (by decide +kernel), by decide +kernel⟩,
    ⟨rauLaw_of_check _ (by decide +kernel), takes (by decide +kernel), by decide +kernel⟩⟩

/-- Lane 1 is a second MONITOR, so PINION_B is missing. -/
def roleMissing (s : State) : State :=
  { s with lanes := s.lanes.set 1 { s.lanes.get 1 with role := .monitor, conflict := true } }

/-- Channel 4 is enabled with trip-on-loss, and its node is ABSENT. -/
def chainMissing (s : State) : State :=
  withChannel s 4 fun c => { c with config := { c.config with enabled := true, tripOnLoss := true } }

theorem witness_ArmAndDisarm :
    (LimitLaw (roleMissing working) ∧ Takes (roleMissing working) 2 .arm ∧ (roleMissing working).rc.drive = .halt ∧
        ¬RolesHeld (roleMissing working)) ∧
      (LimitLaw (chainMissing working) ∧ Takes (chainMissing working) 2 .arm ∧ (chainMissing working).rc.drive = .halt ∧
        RolesHeld (chainMissing working) ∧ ¬ChainLocked (chainMissing working)) ∧
      (LimitLaw working ∧ Takes working 2 .arm ∧ working.rc.drive = .halt ∧ RolesHeld working ∧ ChainLocked working) := by
  simp only [rolesHeld_iff, chainLocked_iff, limitLaw_iff, takes_iff]
  decide +kernel

theorem witness_ArmAndDisarm_disarm : Takes (drivingIn .ready) 2 .disarm ∧ (drivingIn .ready).rc.drive = .ready :=
  ⟨takes (by decide +kernel), by decide +kernel⟩

/-- Pinion B is silent. -/
def silentB : State := after (.silenceTimerExpiry .b) (drivingIn .ready)

theorem witness_StartAndInchByTheirChecks :
    (∀ k ∈ [RequestKind.start, .inch], LimitLaw (roleMissing (drivingIn .ready)) ∧
        Takes (roleMissing (drivingIn .ready)) 2 k ∧ (roleMissing (drivingIn .ready)).rc.drive = .ready ∧
        ¬RolesHeld (roleMissing (drivingIn .ready))) ∧
      (∀ k ∈ [RequestKind.start, .inch], LimitLaw silentB ∧ Takes silentB 2 k ∧ silentB.rc.drive = .ready ∧
        RolesHeld silentB ∧ ¬BothReady silentB) ∧
      (∀ k ∈ [RequestKind.start, .inch], LimitLaw (drivingIn .ready) ∧ Takes (drivingIn .ready) 2 k ∧
        (drivingIn .ready).rc.drive = .ready ∧ RolesHeld (drivingIn .ready) ∧ BothReady (drivingIn .ready)) := by
  simp only [rolesHeld_iff, bothReady_iff, limitLaw_iff, takes_iff]
  decide +kernel

theorem witness_StopEntersStopping :
    (LimitLaw (ramped .run) ∧ Takes (ramped .run) 2 .stop ∧ (ramped .run).rc.drive = .run) ∧
      (LimitLaw (ramped .inch) ∧ Takes (ramped .inch) 2 .stop ∧ (ramped .inch).rc.drive = .inch) := by
  simp only [limitLaw_iff, takes_iff]
  decide +kernel

/-- TRIPPED with the record closed and both pinions acknowledged at a current within the zero band. -/
def clearable : State :=
  { closedRecord with
    rc := { closedRecord.rc with ack := .both true, latest := .both (some ⟨328, 1000, true, false⟩) } }

/-- The same with OL_A at half of Q. -/
def loaded : State := { clearable with dwu := { clearable.dwu with ol := ⟨1000000, 0⟩ } }

theorem witness_ClearTripByItsChecks :
    (Takes filling 2 .clearTrip ∧ filling.rc.drive = .tripped ∧ RecordFilling filling) ∧
      (Takes closedRecord 2 .clearTrip ∧ closedRecord.rc.drive = .tripped ∧ ¬RecordFilling closedRecord ∧
        ¬AtRest closedRecord .a) ∧
      (Takes loaded 2 .clearTrip ∧ loaded.rc.drive = .tripped ∧ ¬RecordFilling loaded ∧ (∀ k, AtRest loaded k) ∧
        CauseActive loaded) ∧
      (Takes clearable 2 .clearTrip ∧ clearable.rc.drive = .tripped ∧ ¬RecordFilling clearable ∧
        (∀ k, AtRest clearable k) ∧ ¬CauseActive clearable) := by
  simp only [recordFilling_iff, atRest_iff, causeActive_iff, takes_iff, forall_pinion]
  decide +kernel

/-- D one above L_plant, and D at L_plant, at the bound 32767 of the fields. -/
theorem witness_SetLimitsWritesAndRetargets :
    LimitLaw (ramped .run) ∧ Takes (ramped .run) 2 .setLimits ∧
      min (32766 : Word16).toNat 32767 < min (32767 : Word16).toNat 32767 ∧
      min (65535 : Word16).toNat 32767 ≤ min (32767 : Word16).toNat 32767 := by
  simp only [limitLaw_iff, takes_iff]
  decide +kernel

theorem witness_SetGainsAppliesOrStages :
    Takes (ramped .run) 2 .setGains ∧ Takes working 2 .setGains ∧ InRegulation (ramped .run) ∧ ¬InRegulation working ∧
      0 < (1 : Word16).toInt ∧ (0xFFFF : Word16).toInt < 0 ∧ (0 : Word16).toInt ≤ 0 ∧ 0 ≤ (0 : Word16).toInt := by
  simp only [takes_iff, inRegulation_iff]
  decide +kernel

theorem witness_SetShareStoresLeadAndOffset :
    Takes working 2 .setShare ∧ (BitVec.ofInt 16 (-3278)).toInt < -3277 ∧ 3277 < (3278 : Word16).toInt ∧
      (-3277 ≤ (3277 : Word16).toInt ∧ (3277 : Word16).toInt ≤ 3277) := by
  simp only [takes_iff]
  decide +kernel

/-- Sums of 599999 and 600000 against a Q of 600000. -/
def heavy (d : DriveState) : State := { ramped d with dwu := { DriveWatch.reset with ol := ⟨599999, 600000⟩ } }

theorem witness_SetWatchStoresAndCompares :
    (∀ d ∈ [DriveState.run, .tripped], RauLaw (heavy d) ∧ Takes (heavy d) 2 .setWatch ∧ (heavy d).rc.drive = d) ∧
      (∀ d ∈ [DriveState.run, .tripped], (heavy d).dwu.ol.a < 600000 ∧ 600000 ≤ (heavy d).dwu.ol.b ∧
        (heavy d).dwu.ol.b < 600001 ∧ 599999 ≤ (heavy d).dwu.ol.a) := by
  refine ⟨fun d hd => ⟨rauLaw_of_check _ ?_, takes ?_, ?_⟩, by decide +kernel⟩ <;> revert d <;> decide +kernel

theorem witness_SetChannelByItsTable :
    LimitLaw nearDanger ∧ Takes nearDanger 2 .setChannel ∧ (5 : Channel).val = min (5 : Byte).toNat 7 ∧
      ((4000 : Word16).toNat < (4001 : Word16).toNat ∧ (3999 : Word16).toNat < (4000 : Word16).toNat) ∧
      ¬((4000 : Word16).toNat < (4000 : Word16).toNat ∧ (3999 : Word16).toNat < (4000 : Word16).toNat) ∧
      ¬((4000 : Word16).toNat < (4001 : Word16).toNat ∧ (4000 : Word16).toNat < (4000 : Word16).toNat) ∧
      (nearDanger.vlu.channels.get 5).config.enabled = true := by
  simp only [limitLaw_iff, takes_iff]
  decide +kernel

/-- Window code 2 as it stands, and code 3; rate codes 0, 1 and 2. -/
theorem witness_SetChainStoresSettings :
    Takes working 2 .setChain ∧ min (2 : Byte).toNat 4 = working.vlu.windowCode ∧
      min (3 : Byte).toNat 4 ≠ working.vlu.windowCode ∧
      ((0 : Byte).toNat = 0 ∧ (1 : Byte).toNat = 1 ∧ 2 ≤ (2 : Byte).toNat) := by
  simp only [takes_iff]
  decide +kernel

/-- A discovery of 4 positions has locked two and makes the 64th search round for position 2. -/
def discovering : State :=
  let s := { working with scc := { SensorChain.reset with discovery := some ⟨4, .search 2 64, 2⟩, lastResult := .running } }
  let s := withNode (withNode s 0 fun e => { e with state := .locked }) 1 fun e => { e with state := .locked }
  let s := withNode s 2 fun e => { e with state := .searching }
  { s with scc := { s.scc with round := some ⟨[], some 2⟩ } }

theorem witness_DiscoverStartsADiscovery :
    (LimitLaw discovering ∧ Takes discovering 2 .discover ∧ ¬InRegulation discovering ∧ discovering.scc.discovery ≠ none) ∧
      (LimitLaw working ∧ Takes working 2 .discover ∧ ¬InRegulation working ∧ working.scc.discovery = none) := by
  simp only [limitLaw_iff, takes_iff, inRegulation_iff]
  decide +kernel

/-- The record of slot 2 is READ. -/
def readRecord : State := trippedWith .read (recordOf 13 1 0 0)

theorem witness_ReleaseFreesASlot :
    (Takes closedRecord 2 .release ∧ (closedRecord.trc.slots.get 2).state = .closed) ∧
      (Takes readRecord 2 .release ∧ (readRecord.trc.slots.get 2).state = .read) ∧
      (Takes filling 2 .release ∧ (filling.trc.slots.get 2).state = .filling ∧ (filling.trc.slots.get 7).state = .free) ∧
      ((2 : Byte) = byteOf (2 : Fin 8).val ∧ (7 : Byte) = byteOf (7 : Fin 8).val ∧ 8 < (9 : Byte).toNat) := by
  simp only [takes_iff]
  decide +kernel

theorem witness_TimeCaptureAndCauses :
    Takes working 2 .setTime ∧ Takes captured 2 .clearCapture ∧ Takes working 2 .clearCauses := by
  simp only [takes_iff]
  decide +kernel

/-- The reset pin holds the part. -/
def held : State := after .resetPin working

theorem witness_ResetsAndTheirCauses :
    (Takes working 2 .reset ∧ working.rc.drive = .halt) ∧ (Takes filling 2 .reset ∧ filling.rc.drive = .tripped) ∧
      working.tbu.phase ≠ .held ∧ held.tbu.phase = .held := by
  simp only [takes_iff]
  decide +kernel

theorem witness_RolesAndInitialisation :
    held.tbu.phase = .held ∧ working.tbu.phase ≠ .held ∧ State.reset.tbu.phase = .initialising ∧
      working.tbu.phase ≠ .initialising ∧ Role.plant ≠ .monitor := by decide +kernel

theorem witness_TimeCountAndRampTick :
    (working.tbu.phase ≠ .held ∧ (drivingIn .run).tbu.phase ≠ .held ∧ LimitLaw (drivingIn .run)) ∧
      held.tbu.phase = .held := by
  simp only [limitLaw_iff]
  decide +kernel

theorem witness_SilenceTimerExpiryByDriveState : working.rc.silenceTimer.get .a = none ∧
    ∀ d ∈ [DriveState.halt, .ready, .run, .inch, .stopping, .tripped],
      RauLaw (drivingIn d) ∧ (drivingIn d).rc.silenceTimer.get .b = some 8 ∧ (drivingIn d).rc.drive = d := by
  refine ⟨by decide, fun d hd => ⟨rauLaw_of_check _ ?_, ?_⟩⟩ <;> revert d <;> decide +kernel

theorem witness_StopAndPostTripTimers :
    (RauLaw (ramped .stopping) ∧ (ramped .stopping).rc.drive = .stopping ∧ (ramped .stopping).rc.stopTimer ≠ none) ∧
      working.rc.stopTimer = none ∧
      (filling.trc.postTimer = true ∧ filling.trc.current = some 2 ∧ (filling.trc.slots.get 2).state = .filling) ∧
      working.trc.postTimer = false := by
  refine ⟨⟨rauLaw_of_check _ ?_, ?_⟩, ?_⟩ <;> decide +kernel

theorem witness_RoundStartSendsThePoll :
    working.tbu.phase ≠ .held ∧ (tracking.tbu.phase ≠ .held ∧ tracking.spanEnd = some 2) ∧ discovering.tbu.phase ≠ .held := by
  decide +kernel

/-- The five outcomes of section 6.3 at position 2: good and bad at the edges 142 and 148 of the acceptance window, early
and late just beyond them, and nothing in the reply window 138..168; a DISCOVER in mid-round; a window not open. -/
theorem witness_PolledWindowOutcome :
    ((after (.discover 2 3) tracking).scc.round = some ⟨[2], none⟩ ∧
      ((after (.discover 2 3) tracking).scc.nodes.get 2).state ≠ .locked) ∧ ¬WindowOpen tracking 1 ∧
    VibrationLaw tracking ∧ tracking.scc.round = some ⟨[2], none⟩ ∧ (tracking.scc.nodes.get 2).state = .locked ∧
      Heard (tracking.scc.nodes.get 2) 2 [⟨142, 0b1001100011001001⟩] ⟨.locked, none, 145, 0, 0, 0⟩ (some 800) ∧
      Heard (tracking.scc.nodes.get 2) 2 [⟨148, 0b1001100011001000⟩] ⟨.locked, none, 145, 1, 1, 0⟩ none ∧
      Heard (tracking.scc.nodes.get 2) 2 [⟨141, 0⟩] ⟨.locked, none, 144, 1, 0, 1⟩ none ∧
      Heard (tracking.scc.nodes.get 2) 2 [⟨149, 0⟩] ⟨.locked, none, 146, 1, 0, 1⟩ none ∧
      Heard (tracking.scc.nodes.get 2) 2 [⟨137, 0⟩, ⟨169, 0⟩] ⟨.locked, none, 145, 1, 0, 0⟩ none := by
  refine ⟨by decide +kernel, ?_, (vibrationLaw_iff _).2 (by decide +kernel), by decide +kernel, by decide +kernel, ?_, ?_, ?_, ?_,
    ?_⟩
  · rintro ⟨r, hr, h⟩
    obtain rfl : (⟨[2], none⟩ : Round) = r := Option.some.inj ((by decide +kernel : tracking.scc.round = _).symm.trans hr)
    revert h
    decide
  · exact .good _ _ ⟨[], [], rfl, by unfold InWindow; decide, by simp⟩ (by decide +kernel) (by decide +kernel)
      (by unfold Passes; decide +kernel) (by decide +kernel)
  · exact .bad _ ⟨[], [], rfl, by unfold InWindow; decide, by simp⟩ (by decide +kernel) (by decide +kernel)
      (by unfold Passes; decide +kernel)
  · exact .early _ ⟨[], [], rfl, by unfold InWindow; decide, by simp⟩ (by decide +kernel)
  · exact .late _ ⟨[], [], rfl, by unfold InWindow; decide, by simp⟩ (by decide +kernel)
  · exact .silent (by unfold InWindow; decide)

/-- Position 2 after fifteen failed rounds in a row, with trip-on-loss or without. -/
def nearLoss (d : DriveState) (tripOnLoss : Bool) : State :=
  let s := withNode tracking 2 fun e => { e with miss := 15 }
  let s := withChannel s 2 fun c => { c with config := { c.config with tripOnLoss := tripOnLoss } }
  { s with rc := (drivingIn d).rc }.retarget

theorem witness_SixteenthFailureLosesTheNode :
    (∀ d ∈ [DriveState.halt, .run, .tripped], ∀ b ∈ [true, false],
      LimitLaw (nearLoss d b) ∧ RauLaw (nearLoss d b) ∧ (nearLoss d b).scc.round = some ⟨[2], none⟩ ∧
        ((nearLoss d b).scc.nodes.get 2).state = .locked ∧ ((nearLoss d b).vlu.channels.get 2).config.enabled = true ∧
        ((nearLoss d b).vlu.channels.get 2).config.tripOnLoss = b ∧
        ((nearLoss d b).scc.nodes.get 2).failed = ⟨.lost, none, 145, 16, 0, 0⟩) ∧
      ∀ e : NodeEntry, Heard e 2 [] e.failed none := by
  refine ⟨fun d hd b hb => ⟨limits ?_, rauLaw_of_check _ ?_, ?_⟩, fun e => .silent (by simp)⟩ <;> revert b <;> revert d <;>
    decide +kernel

/-- An identity word with echo 2 and code 77, in a discovery of 4 positions that has made 64 search rounds at position 2,
and of 3 positions, where position 2 is the last. -/
theorem witness_SearchWindowOutcome :
    (discovering.scc.round = some ⟨[], some 2⟩ ∧ discovering.scc.discovery = some ⟨4, .search 2 64, 2⟩ ∧ 64 ≤ 64 ∧ 63 < 64) ∧
      FirstIn 2 [⟨150, 0b1101000010011011⟩] ⟨150, 0b1101000010011011⟩ ∧ Passes 0b11 ⟨150, 0b1101000010011011⟩ ∧
      ((⟨150, 0b1101000010011011⟩ : ChainWord).bits.extractLsb' 11 3).toNat = (2 : Fin 8).val ∧
      ¬Passes 0b11 ⟨150, 0b1101000010011010⟩ ∧ ((3 : Fin 8).val = (2 : Fin 8).val + 1 ∧ (2 : Fin 8).val + 1 < 4) ∧
      3 ≤ (2 : Fin 8).val + 1 := by
  refine ⟨by decide +kernel, ⟨[], [], rfl, by unfold InWindow; decide, by simp⟩, ?_, by decide, ?_, by decide, by decide⟩ <;>
    unfold Passes <;> decide +kernel

/-- The level computation of `nearDanger`, and a channel without one; the level 8600 of its window. -/
theorem witness_LevelCompletionUpdatesTheChannel :
    LimitLaw nearDanger ∧ RauLaw nearDanger ∧ (nearDanger.vlu.channels.get 4).computation = none ∧
      (nearDanger.vlu.channels.get 5).computation = some ⟨0, 4733440000, 0, 0⟩ ∧
      IsLevel ⟨0, 4733440000, 0, 0⟩ 8600 :=
  ⟨limits (by decide +kernel), rauLaw_of_check _ (by decide +kernel), by decide +kernel, by decide +kernel,
    by unfold IsLevel; decide +kernel⟩

/-- What makes a sample of pinion A at 1000 du with its ready flag set report nothing. -/
theorem calm_of (s : State) (h : firstReports s .a 1000 1 = [])
    (hi : ¬s.dwu.watch.persistence ≤ runAfter s .a 1000) : Calm s .a 1000 1 := ⟨h, fun hr => hi hr.2⟩

theorem witness_SampleOutsideRegulation :
    (Takes working 0 .sample ∧ (working.lanes.get 0).role = pinionRole .a ∧ working.rc.drive = .halt ∧
        Calm working .a 1000 1) ∧
      (Takes (drivingIn .ready) 0 .sample ∧ (drivingIn .ready).rc.drive = .ready ∧ Calm (drivingIn .ready) .a 1000 1) ∧
      (Takes filling 1 .sample ∧ (filling.lanes.get 1).role = pinionRole .b ∧ filling.rc.drive = .tripped) :=
  ⟨⟨takes (by decide), by decide, by decide, calm_of _ (by decide +kernel) (by decide +kernel)⟩,
    ⟨takes (by decide +kernel), by decide +kernel, calm_of _ (by decide +kernel) (by decide +kernel)⟩,
    ⟨takes (by decide +kernel), by decide +kernel, by decide +kernel⟩⟩

/-- With the RAU idle, and with a computation of B in flight. -/
def computingB : State :=
  let s := ramped .run
  { s with
    lanes := s.lanes.set 1 { s.lanes.get 1 with selection := .none }
    rau := ⟨some ⟨{ entryA with pinion := .b }, 0, 0, .zero, .default, false⟩, []⟩ }

theorem witness_SampleInRegulationEntersTheRau :
    (∀ d ∈ [DriveState.run, .inch, .stopping], Takes (ramped d) 0 .sample ∧
        ((ramped d).lanes.get 0).role = pinionRole .a ∧ InRegulation (ramped d) ∧ (ramped d).rau.inFlight = none) ∧
      (Calm (ramped .run) .a 1000 1 ∧ Calm (ramped .inch) .a 1000 1 ∧ Calm (ramped .stopping) .a 1000 1) ∧
      ¬NearStandstill (ramped .stopping) .a 165 ∧
      (Takes computingB 0 .sample ∧ InRegulation computingB ∧ Calm computingB .a 1000 1 ∧ computingB.rau.inFlight ≠ none) := by
  refine ⟨?_, ⟨calm_of _ ?_ ?_, calm_of _ ?_ ?_, calm_of _ ?_ ?_⟩, ?_, ?_, ?_, calm_of _ ?_ ?_, ?_⟩ <;>
    first
      | decide +kernel
      | (simp only [takes_iff, inRegulation_iff]; decide +kernel)
      | (unfold NearStandstill; decide +kernel)

/-- STOPPING with pinion B at the edge of the zero-speed band, and a computation of A or none at all in the RAU. -/
def nearStandstill (busy : Bool) : State :=
  let s := ramped .stopping
  { s with
    rc := { s.rc with latest := ⟨some ⟨0, 1000, true, false⟩, some ⟨0, 164, true, false⟩⟩ }
    rau := if busy then computingB.rau else ⟨none, []⟩
    lanes := s.lanes.set 1 { s.lanes.get 1 with selection := .none } }

theorem witness_SampleEndsTheStop :
    ∀ b ∈ [true, false], RauLaw (nearStandstill b) ∧ TableLaw (nearStandstill b) ∧ Takes (nearStandstill b) 0 .sample ∧
      ((nearStandstill b).lanes.get 0).role = pinionRole .a ∧ (nearStandstill b).rc.drive = .stopping ∧
      Calm (nearStandstill b) .a 1000 1 ∧ NearStandstill (nearStandstill b) .a 164 := by
  refine fun b hb => ⟨rauLaw_of_check _ ?_, (tableLaw_iff _).2 ?_, takes ?_, ?_, ?_, calm_of _ ?_ ?_, ?_⟩ <;>
    revert b <;> first | decide +kernel | (unfold NearStandstill; decide +kernel)

/-- RUN one update below the persistence of the imbalance check. -/
def nearImbalance : State :=
  { ramped .run with dwu := { DriveWatch.reset with filter := 456853, runCount := 31 } }

/-- Overcurrent alone, a fault with an overcurrent behind it, a missing ready flag, and the imbalance check. -/
theorem witness_SampleTripsTheDrive :
    (RauLaw computingB ∧ Takes computingB 0 .sample ∧ (computingB.lanes.get 0).role = pinionRole .a ∧
        computingB.rc.drive ≠ .tripped ∧ firstReports computingB .a 29491 1 = [(.overcurrent .a, 29491, 29491)] ∧
        firstReports computingB .a 29491 3 = [(.bridgeFault .a, 0, 0), (.overcurrent .a, 29491, 29491)] ∧
        firstReports computingB .a 1000 0 = [(.bridgeDrop .a, 0, 0)]) ∧
      (RauLaw nearImbalance ∧ Takes nearImbalance 0 .sample ∧ nearImbalance.rc.drive ≠ .tripped ∧
        imbalanceReports nearImbalance .a 20000 1) := by
  refine ⟨⟨rauLaw_of_check _ ?_, takes ?_, ?_⟩, rauLaw_of_check _ ?_, takes ?_, ?_, ⟨?_, ?_⟩, ?_⟩ <;> decide +kernel

/-- The RAU idle, a computation alone, and a second one waiting behind it. -/
theorem witness_ComputationCompletionByItsSteps :
    (RegulatorLaw working ∧ working.rau.inFlight = none) ∧
      (RegulatorLaw computing ∧ computing.rau.inFlight ≠ none ∧ computing.rau.waiting = []) ∧
      (RegulatorLaw { computingB with rau := { computingB.rau with waiting := [entryA] } } ∧
        ({ computingB with rau := { computingB.rau with waiting := [entryA] } } : State).rau.waiting = entryA :: []) := by
  simp only [regulatorLaw_iff]
  decide +kernel

/-- TRIPPED with a SAMPLE next. -/
def trippedNext : State := { filling with pending := [.sample 0 0 0 9 1 none] }

/-- RUN with the completion of A's computation next. -/
def runNext : State := { computing with pending := [.computationCompletion] }

theorem witness_laws_step : (∃ t, step trippedNext = .next t) ∧ ∃ t, step runNext = .next t := ⟨⟨_, rfl⟩, ⟨_, rfl⟩⟩

/-- Both states obey every law. -/
theorem witness_laws :
    ∀ s ∈ [trippedNext, runNext],
      LimitLaw s ∧ OverloadLaw s ∧ RegulatorLaw s ∧ RauLaw s ∧ TableLaw s ∧ SnapshotLaw s ∧ CursorLaw s ∧ VibrationLaw s ∧
        DangerLaw s ∧ ChainLaw s := by
  simp only [limitLaw_iff, overloadLaw_iff, regulatorLaw_iff, tableLaw_iff, snapshotLaw_iff, cursorLaw_iff,
    vibrationLaw_iff, dangerLaw_iff, chainLaw_iff]
  refine fun s hs => ⟨?_, ?_, ?_, rauLaw_of_check _ ?_, ?_, ?_, ?_, ?_, ?_, ?_⟩ <;> revert s <;> decide +kernel

/-- The 64th search round with the close of its window next, and a round start between rounds. -/
theorem witness_ChainLawsKept :
    (ChainLaw discovering ∧ SearchLaw discovering ∧
      ∃ t, step { discovering with pending := [.replyWindowClose 2 []] } = .next t) ∧
      (ChainLaw working ∧ SearchLaw working ∧ working.scc.round = none ∧
        ∃ t, step { working with pending := [.roundStart] } = .next t) := by
  simp only [chainLaw_iff]
  refine ⟨⟨by decide +kernel, fun count n rounds found h => ?_, _, rfl⟩, by decide +kernel,
    fun count n rounds found h => ?_, by decide +kernel, _, rfl⟩
  · obtain ⟨-, ⟨rfl, rfl⟩, -⟩ : count = 4 ∧ (n = 2 ∧ rounds = 64) ∧ found = 2 := by
      have := (by decide +kernel : discovering.scc.discovery = some ⟨4, .search 2 64, 2⟩).symm.trans h
      cases this
      simp
    exact ⟨le_rfl, fun _ => ⟨⟨[], some 2⟩, by decide +kernel, rfl, by simp⟩⟩
  · have := (by decide +kernel : working.scc.discovery = none).symm.trans h
    cases this

/-- A state outside regulation in which the laws hold, before a step that stays there, and a ramp tick. -/
theorem witness_LimitsAreZeroOutsideRegulation :
    (LimitLaw trippedNext ∧ OverloadLaw trippedNext ∧ RegulatorLaw trippedNext ∧ RauLaw trippedNext ∧
      ∃ t, step trippedNext = .next t ∧ ¬InRegulation t) ∧ LimitLaw working ∧ ¬InRegulation working := by
  obtain ⟨h1, h2, h3, h4, -⟩ := witness_laws trippedNext (by simp)
  refine ⟨⟨h1, h2, h3, h4, _, rfl, ?_⟩, limits (by decide +kernel), ?_⟩ <;> rw [inRegulation_iff] <;> decide +kernel

theorem witness_DriveWatchAfterEveryReset :
    working.tbu.phase ≠ .held ∧ (Takes working 2 .reset ∧ working.rc.drive = .halt) ∧
      (RauLaw held ∧ held.tbu.phase ≠ .working ∧ held.dwu = DriveWatch.reset) ∧
      (RauLaw State.reset ∧ State.reset.tbu.phase ≠ .working ∧ State.reset.dwu = DriveWatch.reset) := by
  refine ⟨by decide, ⟨takes (by decide), by decide⟩, ⟨rauLaw_of_check _ ?_, ?_⟩, rauLaw_of_check _ ?_, ?_⟩ <;>
    decide +kernel

theorem witness_FrameRoundTrip :
    requestLane (.ackNotice 1 7) = some 1 ∧ encodeFrame (.ackNotice 1 7) = some [0x09, 1, 7, crc8 [0x09, 1, 7]] ∧
      decodeFrame 1 ⟨0, 1, 2, 3⟩ ([0x09, 1, 7, crc8 [0x09, 1, 7]] ++ [0xAA]) = .ok (.ackNotice 1 7) := by decide +kernel

end Sys2Proof.Tests
end

section
/-! PROOFS. Requests that reach their owning block: what they answer, and what an answer leaves as it was. -/

namespace Sys2Proof.Machine

/-! ### Requests that are taken -/

section
variable {s : State} {lane : Lane} {kind : RequestKind} {payload : List Byte} {i : Instr} {body : State → State}

/-- A taken request runs its block on the state in which the selection has ended (R161, R163). -/
theorem exec_of_takes (hx : exec i s = .next (s.request lane kind payload body)) (h : Takes s lane kind) :
    exec i s = .next (body (s.closeSelection lane (requestFrame kind payload))) := by
  rw [hx, State.request_takes s lane kind payload body h]

/-- The same, with the outcome of the block named. -/
theorem exec_eq_of_takes (hx : exec i s = .next (s.request lane kind payload body)) (h : Takes s lane kind) {t : State}
    (hb : body (s.closeSelection lane (requestFrame kind payload)) = t) : exec i s = .next t := by
  rw [exec_of_takes hx h, hb]

/-- A block that only answers refuses the request (R2, R159). -/
theorem refused_of_answer (hx : exec i s = .next (s.request lane kind payload body)) (h : Takes s lane kind)
    {status : Status} (hb : body (s.closeSelection lane (requestFrame kind payload)) =
      (s.closeSelection lane (requestFrame kind payload)).answer lane kind status []) :
    Refused i s lane kind payload status :=
  ⟨_, exec_eq_of_takes hx h hb, rfl, answered_of_quiet rfl status []⟩

/-- The lanes after a request whose block raised notices that the end of the selection does not change. -/
theorem answered_of_onlyNotices {u : State} {raised : LaneState → Byte}
    (h : OnlyNotices (s.closeSelection lane (requestFrame kind payload)) u raised)
    (hr : ∀ j, raised ((s.closeSelection lane (requestFrame kind payload)).lanes.get j) = raised (s.lanes.get j))
    (status : Status) (reply : List Byte) :
    Answered s (u.answer lane kind status reply) lane kind payload ⟨kind.code, status, u.rc.drive, reply⟩ raised := by
  refine answered_of_raised (fun j => ?_) status reply
  rw [h j, hr j, State.closeSelection_get]
  split <;> rfl

end

theorem limitBit_congr {a b : Bool} {l l' : LaneState} (h : l.role = l'.role) : limitBit a b l = limitBit a b l' := by
  simp only [limitBit, h]

theorem State.closeSelection_rolesPresent (s : State) (lane : Lane) (bytes : List Byte) :
    (s.closeSelection lane bytes).rolesPresent = s.rolesPresent := by
  rw [Bool.eq_iff_iff, ← rolesHeld_iff, ← rolesHeld_iff]
  simp only [RolesHeld, State.closeSelection_role]

/-- A state with a drive state of HALT, READY or TRIPPED entered at rest, and STATE on every lane (R9, R51). -/
theorem State.enterRest_onlyNotices (s : State) (d : DriveState) (hd : d.regulating = false) :
    OnlyNotices s ((s.enterRest d).raiseAll .state)
      (raisedBoth stateBit (limitBit (decide (0 < s.slu.limit.a)) (decide (0 < s.slu.limit.b)))) := by
  intro j
  have bit : (Notice.state.bit : Byte) = 0x80 := by decide
  rw [State.raiseAll_get, State.enterRest_lanes s d hd, LaneState.raise_eq, bit]
  simp only [raisedBoth, stateBit, BitVec.or_assoc, BitVec.or_comm (0x80 : Byte)]

/-! ### The requests of run control, branch by branch (R3 to R6, R19, R20) -/

section
variable {s : State} {lane : Lane}

theorem State.armRequest_badState (h : s.rc.drive ≠ .halt) : s.arm lane = s.answer lane .arm .badState [] := if_pos h

theorem State.armRequest_missingRole (h : s.rc.drive = .halt) (hr : s.rolesPresent = false) :
    s.arm lane = s.answer lane .arm .missingRole [] := by
  simp [State.arm, h, hr]

theorem State.armRequest_chainIncomplete (h : s.rc.drive = .halt) (hr : s.rolesPresent = true) (hc : s.chainComplete = false) :
    s.arm lane = s.answer lane .arm .chainIncomplete [] := by
  simp [State.arm, h, hr, hc]

theorem State.armRequest_ok (h : s.rc.drive = .halt) (hr : s.rolesPresent = true) (hc : s.chainComplete = true) :
    s.arm lane = (s.moveTo .ready).answer lane .arm .ok [] := by
  simp [State.arm, h, hr, hc]

theorem State.disarm_badState (h : s.rc.drive ≠ .ready) : s.disarm lane = s.answer lane .disarm .badState [] := if_pos h

theorem State.disarm_ok (h : s.rc.drive = .ready) :
    s.disarm lane = ((s.enterRest .halt).raiseAll .state).answer lane .disarm .ok [] := by
  simp [State.disarm, h]

theorem State.startRefusal_badState (h : s.rc.drive ≠ .ready) : s.startRefusal = some .badState := if_pos h

theorem State.startRefusal_missingRole (h : s.rc.drive = .ready) (hr : s.rolesPresent = false) :
    s.startRefusal = some .missingRole := by
  simp [State.startRefusal, h, hr]

theorem State.startRefusal_notReady (h : s.rc.drive = .ready) (hr : s.rolesPresent = true)
    (hb : (s.rc.startable .a && s.rc.startable .b) = false) : s.startRefusal = some .notReady := by
  simp only [State.startRefusal, h, hr, hb]
  simp

theorem State.startRefusal_none (h : s.rc.drive = .ready) (hr : s.rolesPresent = true)
    (hb : (s.rc.startable .a && s.rc.startable .b) = true) : s.startRefusal = none := by
  simp only [State.startRefusal, h, hr, hb]
  simp

theorem State.start_refused {status : Status} (h : s.startRefusal = some status) :
    s.start lane = s.answer lane .start status [] := by
  simp [State.start, h]

theorem State.start_ok (h : s.startRefusal = none) :
    s.start lane = ((s.updDwu DriveWatch.clearImbalance).moveTo .run).answer lane .start .ok [] := by
  simp [State.start, h]

theorem State.inching_refused {status : Status} (h : s.startRefusal = some status) :
    s.inching lane = s.answer lane .inch status [] := by
  simp [State.inching, h]

theorem State.inching_ok (h : s.startRefusal = none) : s.inching lane = (s.moveTo .inch).answer lane .inch .ok [] := by
  simp [State.inching, h]

theorem State.stop_badState (h1 : s.rc.drive ≠ .run) (h2 : s.rc.drive ≠ .inch) :
    s.stop lane = s.answer lane .stop .badState [] := by
  unfold State.stop
  cases hd : s.rc.drive
  case run => exact absurd hd h1
  case inch => exact absurd hd h2
  all_goals rfl

theorem State.stop_of_run (h : s.rc.drive = .run) :
    s.stop lane = (s.startStopTimer.moveTo .stopping).answer lane .stop .ok [] := by
  simp [State.stop, h]

theorem State.stop_of_inch (h : s.rc.drive = .inch) :
    s.stop lane =
      ((s.startStopTimer.updDwu DriveWatch.clearImbalance).moveTo .stopping).answer lane .stop .ok [] := by
  simp [State.stop, h]

theorem State.clearRefusal_badState (h : s.rc.drive ≠ .tripped) : s.clearRefusal = some .badState := if_pos h

theorem State.clearRefusal_filling (h : s.rc.drive = .tripped) (hf : s.trc.fillingSlot.isSome = true) :
    s.clearRefusal = some .filling := by
  simp only [State.clearRefusal, h, hf]
  simp

theorem State.clearRefusal_notReady (h : s.rc.drive = .tripped) (hf : s.trc.fillingSlot.isSome = false)
    (hr : (s.atRest .a && s.atRest .b) = false) : s.clearRefusal = some .notReady := by
  simp only [State.clearRefusal, h, hf, hr]
  simp

theorem State.clearRefusal_activeCause (h : s.rc.drive = .tripped) (hf : s.trc.fillingSlot.isSome = false)
    (hr : (s.atRest .a && s.atRest .b) = true) (hc : s.activeCause = true) : s.clearRefusal = some .activeCause := by
  simp only [State.clearRefusal, h, hf, hr, hc]
  simp

theorem State.clearRefusal_none (h : s.rc.drive = .tripped) (hf : s.trc.fillingSlot.isSome = false)
    (hr : (s.atRest .a && s.atRest .b) = true) (hc : s.activeCause = false) : s.clearRefusal = none := by
  simp only [State.clearRefusal, h, hf, hr, hc]
  simp

theorem State.clearTrip_refused {status : Status} (h : s.clearRefusal = some status) :
    s.clearTrip lane = s.answer lane .clearTrip status [] := by
  simp [State.clearTrip, h]

theorem State.clearTrip_ok (h : s.clearRefusal = none) :
    s.clearTrip lane =
      (((s.updRc RunControl.clearAcks).enterRest .halt).raiseAll .state).answer lane .clearTrip .ok [] := by
  simp [State.clearTrip, h]

theorem State.ackTrip_badState (h : s.rc.drive ≠ .tripped) : s.ackTrip lane = s.answer lane .ackTrip .badState [] :=
  if_neg h

theorem State.ackTrip_ok {k : Pinion} (h : s.rc.drive = .tripped) (hk : (s.lanes.get lane).role.pinion? = some k) :
    s.ackTrip lane = (s.updRc fun r => r.acknowledged k).answer lane .ackTrip .ok [] := by
  simp [State.ackTrip, h, hk]

theorem State.discover_badState {count : Byte} (h : s.rc.drive.regulating = true) :
    s.discover lane count = s.answer lane .discover .badState [] := if_pos h

theorem State.plantReset_badState {straps : Straps} (h1 : s.rc.drive ≠ .halt) (h2 : s.rc.drive ≠ .tripped) :
    s.plantReset lane straps = s.answer lane .reset .badState [] := by
  simp [State.plantReset, h1, h2]

end

@[simp] theorem pinion?_pinionRole (k : Pinion) : (pinionRole k).pinion? = some k := by cases k <;> rfl

/-! ### ACK TRIP and the BAD_STATE refusals (R2, R19) -/

/-- Settles O22: a lane that takes ACK TRIP from a pinion carries the role of that pinion. -/
theorem ackTripSetsMark : Obligations.AckTripSetsMark := by
  intro s lane k h hk hd
  have hk' : ((s.closeSelection lane (requestFrame .ackTrip [])).lanes.get lane).role.pinion? = some k := by
    rw [State.closeSelection_role, hk, pinion?_pinionRole]
  refine ⟨_, exec_eq_of_takes rfl h (State.ackTrip_ok (by exact hd) hk'), rfl, ?_⟩
  rw [← hd]
  exact answered_of_quiet rfl .ok []

/-- Settles O21: each request in turn, its block answering BAD_STATE and nothing else. -/
theorem badStateRefusals : Obligations.BadStateRefusals := by
  intro s lane count straps
  refine ⟨fun h hd => ?arm, fun h hd => ?disarm, fun h hd => ?start, fun h hd => ?inch, fun h h1 h2 => ?stop,
    fun h hd => ?clearTrip, fun h hd => ?ackTrip, fun h hd => ?discover, fun h h1 h2 => ?reset⟩
  case arm => exact refused_of_answer rfl h (State.armRequest_badState (by exact hd))
  case disarm => exact refused_of_answer rfl h (State.disarm_badState (by exact hd))
  case start => exact refused_of_answer rfl h (State.start_refused (State.startRefusal_badState (by exact hd)))
  case inch => exact refused_of_answer rfl h (State.inching_refused (State.startRefusal_badState (by exact hd)))
  case stop => exact refused_of_answer rfl h (State.stop_badState (by exact h1) (by exact h2))
  case clearTrip => exact refused_of_answer rfl h (State.clearTrip_refused (State.clearRefusal_badState (by exact hd)))
  case ackTrip => exact refused_of_answer rfl h (State.ackTrip_badState (by exact hd))
  case discover => exact refused_of_answer rfl h (State.discover_badState (by exact (inRegulation_iff s).mp hd))
  case reset => exact refused_of_answer rfl h (State.plantReset_badState (by exact h1) (by exact h2))

end Sys2Proof.Machine
end

section
/-! PROOFS. The values after power-on. -/

namespace Sys2Proof.Machine

/-! ### The values after power-on (R22, R36, R55, R78, R94, R115, R119, R132, R136, R148, R164, R165, R169, R174) -/

theorem reset_node (c : Fin 8) : State.reset.scc.nodes.get c = ⟨.absent, none, 48 + 48 * c.val, 0, 0, 0⟩ := by
  simp [State.reset, SensorChain.reset, NodeEntry.resetTable, NodeEntry.reset, Config.nominal]

theorem reset_channel (c : Fin 8) : State.reset.vlu.channels.get c =
    ⟨⟨false, .common, 4000, 8000, 400, false⟩, 0, 0, 0, 0, 0, .unknown, ⟨0, 0, 0, 0⟩, 0, none, 0, none⟩ := by
  simp [State.reset, Vibration.reset, ChannelEntry.reset, ChannelConfig.default, RunCounters.zero]

theorem reset_slot (i : Fin 8) : State.reset.trc.slots.get i = ⟨.free, .blank⟩ := by
  simp [State.reset, Recorder.powerOn]

/-- No computation is in the RAU, so no lane is pending (R78, R162). -/
theorem reset_lanePending (j : Lane) : State.reset.lanePending j = false := by
  unfold State.lanePending
  split <;> rfl

theorem reset_lane (j : Lane) : ∃ role conflict, State.reset.lanes.get j = .reset role conflict ∧
    (role, conflict) = settleRole ⟨0, 1, 2, 3⟩ j := by
  fin_cases j <;> exact ⟨_, _, rfl, by decide⟩

/-- Settles O3: the tables evaluate; the nodes, the channels, the slots and the lanes each by their own equation. -/
theorem resetState : Obligations.ResetState := by
  refine ⟨⟨rfl, rfl, rfl, rfl, ⟨rfl, rfl, rfl, rfl, rfl⟩, fun k => ?limits, fun k => ?regulators, rfl, rfl, rfl, rfl,
    reset_node, rfl, rfl, rfl, rfl⟩, reset_channel, rfl, rfl, rfl, rfl, fun k => ?rings, fun i => by rw [reset_slot], rfl, rfl,
    rfl, rfl, rfl, fun j => ?lanes, rfl, rfl⟩
  case limits => cases k <;> exact ⟨rfl, rfl, rfl, rfl⟩
  case regulators => cases k <;> exact ⟨rfl, rfl, rfl⟩
  case rings => cases k <;> exact ⟨rfl, rfl, rfl⟩
  case lanes =>
    obtain ⟨role, conflict, hj, hr⟩ := reset_lane j
    rw [hj]
    exact ⟨rfl, rfl, rfl, rfl, rfl, reset_lanePending j, hr⟩

end Sys2Proof.Machine
end

section
/-! PROOFS. The requests of run control that move the drive: their checks in order and the state they enter. -/

namespace Sys2Proof.Machine

/-! ### ARM and DISARM (R3, R4, R9) -/

/-- A state entered at rest, answered: the lanes of the request, and all that R9 changes (R9, R51, R63). -/
theorem State.enterRest_enteredHalt {s u : State} {lane : Lane} {kind : RequestKind}
    (h : u = { s with lanes := u.lanes, rc := u.rc }) :
    EnteredHalt s (((u.enterRest .halt).raiseAll .state).answer lane kind .ok []) := by
  have hslu : (u.enterRest .halt).slu = s.slu.atRest := by rw [State.enterRest_slu u .halt rfl, h]
  have hcrg : (u.enterRest .halt).crg = s.crg.rest := by rw [State.enterRest_crg, h]
  rw [Regulators.rest_eq] at hcrg
  apply State.ext_fields
  case h5 => exact hslu
  case h6 => exact hcrg
  case h7 => simp [Rau.reset]
  all_goals simp
  all_goals rw [h]

theorem State.enterRest_answered {s u : State} {lane : Lane} {kind : RequestKind}
    (hl : u.lanes = (s.closeSelection lane (requestFrame kind [])).lanes) (hs : u.slu = s.slu) :
    Answered s (((u.enterRest .halt).raiseAll .state).answer lane kind .ok []) lane kind []
      ⟨kind.code, .ok, .halt, []⟩
      (raisedBoth stateBit (limitBit (decide (0 < s.slu.limit.a)) (decide (0 < s.slu.limit.b)))) := by
  have hd : ((u.enterRest .halt).raiseAll .state).rc.drive = .halt := by simp
  have hn := u.enterRest_onlyNotices .halt rfl
  rw [hs] at hn
  have h := answered_of_onlyNotices (s := s) (kind := kind) (fun j => hl ▸ hn j) (fun j => ?_) .ok []
  · rwa [hd] at h
  · simp only [raisedBoth]
    rw [limitBit_congr (State.closeSelection_role s lane _ j)]
    rfl

/-- A taken request that moves the drive state where no limit lies above its new target: what it changes besides run
control and the drive watch (R1, R39). -/
theorem State.moveTo_taken {s u : State} {lane : Lane} {kind : RequestKind} {d : DriveState}
    (hu : u = { s.closeSelection lane (requestFrame kind []) with rc := u.rc, dwu := u.dwu })
    (h : ∀ k, s.slu.limit.get k ≤ (u.updRc fun r => { r with drive := d }).targetOf k) :
    let t := (u.moveTo d).answer lane kind .ok []
    t = { s with
        lanes := t.lanes
        rc := { u.rc with drive := d }
        slu := { s.slu with target := t.slu.target }
        dwu := u.dwu } ∧
      (∀ k, TargetIs t k (t.slu.target.get k)) ∧
      (∀ k, t.slu.target.get k = (u.updRc fun r => { r with drive := d }).targetOf k) ∧
      Answered s t lane kind [] ⟨kind.code, .ok, d, []⟩ stateBit := by
  have hslu : u.slu = s.slu := by rw [hu]; rfl
  have hl : u.lanes = (s.closeSelection lane (requestFrame kind [])).lanes := by rw [hu]
  obtain ⟨ht, htarget, heq, hn⟩ := u.moveTo_spec d (by rwa [hslu])
  refine ⟨?_, htarget, heq, ?_⟩
  · rw [ht, hu]
    rfl
  · have ha := answered_of_onlyNotices (s := s) (kind := kind) (fun j => hl ▸ hn j) (fun _ => rfl) .ok []
    have hd : (u.moveTo d).rc.drive = d := by simp [State.moveTo]
    rwa [hd] at ha

/-- Outside regulation the mode ceiling holds both limits at 0 (R39, R41). -/
theorem LimitLaw.limit_eq_zero {s : State} (h : LimitLaw s) (hd : s.rc.drive.regulating = false) (k : Pinion) :
    s.slu.limit.get k = 0 := by
  have hk := (h.target k).1
  rw [State.targetOf_eq_zero s k hd] at hk
  omega

theorem LimitLaw.target_eq_zero {s : State} (h : LimitLaw s) (hd : s.rc.drive.regulating = false) (k : Pinion) :
    s.slu.target.get k = 0 := by
  rw [(h.target k).2, State.targetOf_eq_zero s k hd]

theorem State.closeSelection_chainComplete (s : State) (lane : Lane) (bytes : List Byte) :
    (s.closeSelection lane bytes).chainComplete = s.chainComplete := rfl

/-- ARM in HALT (R3). -/
theorem armRequest_in_halt {s : State} {lane : Lane} (hlaw : LimitLaw s) (h : Takes s lane .arm) (hd : s.rc.drive = .halt) :
    (¬RolesHeld s → Refused (.arm lane) s lane .arm [] .missingRole) ∧
    (RolesHeld s → ¬ChainLocked s → Refused (.arm lane) s lane .arm [] .chainIncomplete) ∧
    (RolesHeld s → ChainLocked s → ∃ t, exec (.arm lane) s = .next t ∧
      t = { s with lanes := t.lanes, rc := { s.rc with drive := .ready } } ∧
      Answered s t lane .arm [] ⟨0x20, .ok, .ready, []⟩ stateBit) := by
  have hdrive : (s.closeSelection lane (requestFrame .arm [])).rc.drive = .halt := hd
  have hroles := s.closeSelection_rolesPresent lane (requestFrame .arm [])
  have hchain := s.closeSelection_chainComplete lane (requestFrame .arm [])
  have hrest : s.rc.drive.regulating = false := by rw [hd]; rfl
  simp only [rolesHeld_iff, chainLocked_iff, Bool.not_eq_true]
  refine ⟨fun hr => ?missing, fun hr hc => ?incomplete, fun hr hc => ?taken⟩
  case missing => exact refused_of_answer rfl h (State.armRequest_missingRole hdrive (hroles.trans hr))
  case incomplete =>
    exact refused_of_answer rfl h (State.armRequest_chainIncomplete hdrive (hroles.trans hr) (hchain.trans hc))
  case taken =>
    obtain ⟨ht, -, htarget, ha⟩ := State.moveTo_taken (s := s) (u := s.closeSelection lane (requestFrame .arm []))
      (d := .ready) rfl fun k => (hlaw.limit_eq_zero hrest k).trans_le (Nat.zero_le _)
    refine ⟨_, exec_eq_of_takes rfl h (State.armRequest_ok hdrive (hroles.trans hr) (hchain.trans hc)),
      ht.trans ?_, ha⟩
    have hsame : ∀ k, (((s.closeSelection lane (requestFrame .arm [])).moveTo .ready).answer lane .arm .ok []).slu.target.get k =
        s.slu.target.get k := fun k => by
      rw [htarget k, hlaw.target_eq_zero hrest k]
      exact State.targetOf_eq_zero _ k rfl
    rw [Pair.ext_get hsame]
    rfl

/-- Settles O24: READY and HALT are both outside regulation, so no target moves. -/
theorem armAndDisarm : Obligations.ArmAndDisarm := by
  refine ⟨fun s lane hlaw h hd => armRequest_in_halt hlaw h hd, fun s lane h hd => ?_⟩
  exact ⟨_, exec_eq_of_takes rfl h (State.disarm_ok (by exact hd)), State.enterRest_enteredHalt rfl,
    by simp, State.enterRest_answered rfl rfl⟩

/-! ### START and INCH (R5, R39, R90) -/

/-- The checks of START and INCH read the lanes' roles only. -/
theorem State.closeSelection_startRefusal (s : State) (lane : Lane) (bytes : List Byte) :
    (s.closeSelection lane bytes).startRefusal = s.startRefusal := by
  unfold State.startRefusal
  rw [State.closeSelection_rolesPresent]
  rfl

/-- The checks of START and INCH in READY (R5). -/
theorem startRefusal_in_ready {s : State} (hd : s.rc.drive = .ready) :
    (¬RolesHeld s → s.startRefusal = some .missingRole) ∧
    (RolesHeld s → ¬BothReady s → s.startRefusal = some .notReady) ∧
    (RolesHeld s → BothReady s → s.startRefusal = none) := by
  simp only [rolesHeld_iff, bothReady_iff, Bool.not_eq_true]
  exact ⟨State.startRefusal_missingRole hd, State.startRefusal_notReady hd, State.startRefusal_none hd⟩

/-- Settles O25: the limits are 0 in READY, so both targets can only rise. -/
theorem startAndInchByTheirChecks : Obligations.StartAndInchByTheirChecks := by
  intro s lane hlaw hd
  obtain ⟨hm, hn, ho⟩ := startRefusal_in_ready hd
  have hlow : ∀ k n, s.slu.limit.get k ≤ n := fun k n =>
    (hlaw.limit_eq_zero (by rw [hd]; rfl) k).trans_le (Nat.zero_le n)
  refine ⟨fun h => ?start, fun h => ?inch⟩
  case start =>
    have hsame := s.closeSelection_startRefusal lane (requestFrame .start [])
    refine ⟨fun hr => refused_of_answer rfl h (State.start_refused (hsame.trans (hm hr))),
      fun hr hb => refused_of_answer rfl h (State.start_refused (hsame.trans (hn hr hb))), fun hr hb => ?_⟩
    obtain ⟨ht, htarget, -, ha⟩ := State.moveTo_taken (s := s) (lane := lane) (kind := .start) (d := .run)
      (u := (s.closeSelection lane (requestFrame .start [])).updDwu DriveWatch.clearImbalance) rfl fun k => hlow k _
    exact ⟨_, exec_eq_of_takes rfl h (State.start_ok (hsame.trans (ho hr hb))), ht, htarget, ha⟩
  case inch =>
    have hsame := s.closeSelection_startRefusal lane (requestFrame .inch [])
    refine ⟨fun hr => refused_of_answer rfl h (State.inching_refused (hsame.trans (hm hr))),
      fun hr hb => refused_of_answer rfl h (State.inching_refused (hsame.trans (hn hr hb))), fun hr hb => ?_⟩
    obtain ⟨ht, htarget, -, ha⟩ := State.moveTo_taken (s := s) (lane := lane) (kind := .inch) (d := .inch)
      (u := s.closeSelection lane (requestFrame .inch [])) rfl fun k => hlow k _
    exact ⟨_, exec_eq_of_takes rfl h (State.inching_ok (hsame.trans (ho hr hb))), ht, htarget, ha⟩

/-! ### STOP (R6, R39, R90) -/

/-- A target depends on the drive state through the mode ceiling alone, and rises with it (R38, R39). -/
theorem State.targetOf_le_of_modeCeiling {s t : State} (k : Pinion) (hp : t.slu.plant = s.slu.plant)
    (hc : t.slu.ceil = s.slu.ceil) (hd : t.slu.derate = s.slu.derate) (hv : t.vlu = s.vlu)
    (hm : s.modeCeiling ≤ t.modeCeiling) : s.targetOf k ≤ t.targetOf k := by
  have hsource : t.vibSource k = s.vibSource k := by simp only [State.vibSource, hv]
  simp only [State.targetOf, State.vibCeiling, hsource, hp, hc, hd]
  omega

/-- From RUN or INCH the mode ceiling of STOPPING is no lower (R39, R52). -/
theorem modeCeiling_le_stopping {s t : State} (hlaw : LimitLaw s) (hd : s.rc.drive = .run ∨ s.rc.drive = .inch)
    (ht : t.rc.drive = .stopping) : s.modeCeiling ≤ t.modeCeiling := by
  obtain ⟨⟨-, -, -, -, hinch, -⟩, -⟩ := hlaw
  rcases hd with hd | hd <;> simp [State.modeCeiling, hd, ht, Config.fullScale, hinch]

/-- Settles O26: RUN and STOPPING have one mode ceiling, and that of INCH lies below it. -/
theorem stopEntersStopping : Obligations.StopEntersStopping := by
  intro s lane hlaw h hd
  have hlow : ∀ u : State, u.slu = s.slu → u.vlu = s.vlu →
      ∀ k, s.slu.limit.get k ≤ (u.updRc fun r => { r with drive := .stopping }).targetOf k := fun u hu hv k =>
    (hlaw.target k).1.trans (State.targetOf_le_of_modeCeiling k (by simp [hu]) (by simp [hu]) (by simp [hu]) hv
      (modeCeiling_le_stopping hlaw hd rfl))
  rcases hd with hd | hd
  case inl =>
    obtain ⟨ht, htarget, heq, ha⟩ := State.moveTo_taken (s := s) (lane := lane) (kind := .stop) (d := .stopping)
      (u := (s.closeSelection lane (requestFrame .stop [])).startStopTimer) rfl fun k => hlow _ rfl rfl k
    refine ⟨_, exec_eq_of_takes rfl h (State.stop_of_run (by exact hd)), ?_, fun _ => ?_, htarget, ha⟩
    · rw [if_neg (by rw [hd]; decide)]
      exact ht
    · have hsame : ∀ k, (((s.closeSelection lane (requestFrame .stop [])).startStopTimer.moveTo .stopping).answer lane
          .stop .ok []).slu.target.get k = s.slu.target.get k := fun k => by
        rw [heq k, (hlaw.target k).2]
        have hm : ((s.closeSelection lane (requestFrame .stop [])).startStopTimer.updRc
            fun r => { r with drive := .stopping }).modeCeiling = s.modeCeiling := by
          simp [State.modeCeiling, hd]
        simp only [State.targetOf, hm]
        rfl
      rw [congrArg State.slu ht, Pair.ext_get hsame]
  case inr =>
    obtain ⟨ht, htarget, -, ha⟩ := State.moveTo_taken (s := s) (lane := lane) (kind := .stop) (d := .stopping)
      (u := (s.closeSelection lane (requestFrame .stop [])).startStopTimer.updDwu DriveWatch.clearImbalance) rfl
      fun k => hlow _ rfl rfl k
    refine ⟨_, exec_eq_of_takes rfl h (State.stop_of_inch (by exact hd)), ?_, fun hr => ?_, htarget, ha⟩
    · rw [if_pos hd]
      exact ht
    · rw [hd] at hr
      cases hr

/-! ### CLEAR TRIP (R20, R21) -/

theorem forall_atRest_iff (s : State) : (∀ k, AtRest s k) ↔ (s.atRest .a && s.atRest .b) = true := by
  simp only [atRest_iff, forall_pinion, Bool.and_eq_true]

/-- No check of CLEAR TRIP reads the lanes. -/
theorem State.closeSelection_clearRefusal (s : State) (lane : Lane) (bytes : List Byte) :
    (s.closeSelection lane bytes).clearRefusal = s.clearRefusal := rfl

/-- Settles O27: the three checks in their order, then the entry into HALT. -/
theorem clearTripByItsChecks : Obligations.ClearTripByItsChecks := by
  intro s lane h hd
  have hsame := s.closeSelection_clearRefusal lane (requestFrame .clearTrip [])
  rw [← not_forall, forall_atRest_iff, recordFilling_iff, causeActive_iff]
  simp only [Bool.not_eq_true]
  refine ⟨fun hf => ?filling, fun hf hr => ?notReady, fun hf hr hc => ?activeCause, fun hf hr hc => ?cleared⟩
  case filling =>
    exact refused_of_answer rfl h (State.clearTrip_refused (hsame.trans (State.clearRefusal_filling hd hf)))
  case notReady =>
    exact refused_of_answer rfl h (State.clearTrip_refused (hsame.trans (State.clearRefusal_notReady hd hf hr)))
  case activeCause =>
    exact refused_of_answer rfl h (State.clearTrip_refused (hsame.trans (State.clearRefusal_activeCause hd hf hr hc)))
  case cleared =>
    have hok := State.clearTrip_ok (lane := lane) (hsame.trans (State.clearRefusal_none hd hf hr hc))
    refine ⟨_, exec_eq_of_takes (body := fun s => s.clearTrip lane) rfl h hok, State.enterRest_enteredHalt rfl, ?_,
      State.enterRest_answered rfl rfl⟩
    simp [RunControl.clearAcks]

end Sys2Proof.Machine
end

section
/-! PROOFS. Trips that a request or a timer reports: trip entry and later causes. -/

namespace Sys2Proof.Machine

/-! ### Reports (R14, R15, R17) -/

theorem State.reportTrip_of_tripped {s : State} (h : s.rc.drive = .tripped) (cause : Cause) (value limit : Nat)
    (trigger : Option Entry) : s.reportTrip cause value limit trigger = s.offerLater cause := if_pos h

theorem State.reportTrip_of_ne_tripped {s : State} (h : s.rc.drive ≠ .tripped) (cause : Cause) (value limit : Nat)
    (trigger : Option Entry) : s.reportTrip cause value limit trigger = s.enterTrip cause value limit trigger := if_neg h

theorem RauLaw.entries_nodup {s : State} (h : RauLaw s) : (s.rau.entries.map (·.pinion)).Nodup :=
  let ⟨_, _, _, hnodup, _⟩ := h
  hnodup

theorem ne_tripped_of_inRegulation {s : State} (h : InRegulation s) : s.rc.drive ≠ .tripped := by
  rcases h with h | h | h <;> rw [h] <;> decide

/-- Trip entry does not look at the lanes, nor at a stop timer, which it stops. -/
theorem TripEntered.transfer {s u t t' : State} {cause : Cause} {value limit : Nat} {trigger : Option Entry}
    {later : List Cause} (h : TripEntered s t cause value limit trigger later)
    (hu : u = { s with lanes := u.lanes, rc := u.rc })
    (hrc : { u.rc with stopTimer := none } = { s.rc with stopTimer := none })
    (ht : t' = { t with lanes := t'.lanes }) : TripEntered u t' cause value limit trigger later := by
  have hdrive : u.rc.drive = s.rc.drive := by simpa using congrArg RunControl.drive hrc
  have htable := h.table
  have hentered := congrArg (fun r : RunControl => { r with drive := .tripped, ack := .both false }) hrc
  rw [hu, ht]
  refine ⟨h.rc.trans hentered.symm, h.slu, h.crg, h.rau, h.others, h.lost, h.sample, h.kept, ?_⟩
  simp only [Recorded, TakesSlot, Overflows] at htable ⊢
  rw [hdrive]
  exact htable

/-- The lanes after a request whose event updates every lane: the reply of the request stands in its lane's holder, also
where an abandoned computation has been answered (R15, R75, R163). -/
theorem answer_lanes_of_update {s t : State} {lane : Lane} {kind : RequestKind} {bytes reply : List Byte} {status : Status}
    {update : LaneState → LaneState}
    (hupdate : ∀ l, update { l with selection := .none, receiver := bytes } =
      { update l with selection := .none, receiver := bytes })
    (ht : ∀ j, t.lanes.get j = update ((s.closeSelection lane bytes).lanes.get j)) (j : Lane) :
    (t.answer lane kind status reply).lanes.get j =
      if j = lane then
        { update (s.lanes.get j) with
          selection := .none
          receiver := bytes
          holder := ⟨kind.code, status, t.rc.drive, reply⟩ }
      else update (s.lanes.get j) := by
  rw [State.answer_get, ht, State.closeSelection_get]
  split
  · rw [hupdate]
  · rfl

/-- What trip entry does to a lane depends on the limits and the computations it finds. -/
theorem LaneState.tripped_congr {s u : State} (hslu : u.slu = s.slu) (hrau : u.rau = s.rau) (l : LaneState)
    (slot : Option (Fin 8)) : l.tripped u slot = l.tripped s slot := by
  unfold LaneState.tripped
  rw [hslu, hrau]

/-! ### TRIP (R18) -/

/-- Settles O23: TRIP reports the cause COMMANDED, and an answer follows. -/
theorem tripRequestEntersTripped : Obligations.TripRequestEntersTripped := by
  intro s lane hlaw h
  refine ⟨fun hd => ?enters, fun hd => ?later⟩
  case enters =>
    have hrun := exec_eq_of_takes (i := .trip lane) (payload := []) rfl h
      (congrArg (·.answer lane .trip .ok []) (State.reportTrip_of_ne_tripped (by exact hd) (.commanded lane) 0 0 none))
    obtain ⟨hentry, hlanes⟩ := (s.closeSelection lane (requestFrame .trip [])).enterTrip_spec none
      (by exact hlaw.entries_nodup) (.commanded lane) 0 0
    generalize (s.closeSelection lane (requestFrame .trip [])).enterTrip (.commanded lane) 0 0 none = t at *
    refine ⟨_, hrun, hentry.transfer rfl rfl rfl, fun j => ?_⟩
    have hj := answer_lanes_of_update (kind := .trip) (status := .ok) (reply := [])
      (update := fun l => l.tripped s t.trc.current) (fun _ => rfl) (fun i => hlanes i) j
    rwa [hentry.rc] at hj
  case later =>
    have hrun := exec_eq_of_takes (i := .trip lane) (payload := []) rfl h
      (congrArg (·.answer lane .trip .ok []) (State.reportTrip_of_tripped (by exact hd) (.commanded lane) 0 0 none))
    obtain ⟨hlater, heq⟩ := (s.closeSelection lane (requestFrame .trip [])).offerLater_spec (.commanded lane)
    have ha := answered_of_quiet (s := s) (lane := lane) (kind := .trip) (payload := [])
      (State.offerLater_lanes _ (.commanded lane)) .ok []
    rw [State.offerLater_rc, State.closeSelection_rc, hd] at ha
    refine ⟨_, hrun, ?_, hlater, ha⟩
    rw [heq]
    rfl

/-! ### The silence timer (R12) -/

theorem State.silenceExpires_stopped {s : State} {k : Pinion} (h : s.rc.silenceTimer.get k = none) :
    s.silenceExpires k = s := by
  simp [State.silenceExpires, h]

theorem State.silenceExpires_at_rest {s : State} {k : Pinion} {period : Nat} (h : s.rc.silenceTimer.get k = some period)
    (hd : s.rc.drive = .halt ∨ s.rc.drive = .tripped) : s.silenceExpires k = s.updRc fun r => r.silence k := by
  rcases hd with hd | hd <;> simp [State.silenceExpires, h, hd]

theorem State.silenceExpires_ready {s : State} {k : Pinion} {period : Nat} (h : s.rc.silenceTimer.get k = some period)
    (hd : s.rc.drive = .ready) :
    s.silenceExpires k = (s.updRc fun r => r.silence k).updRc fun r => r.clearReady k := by
  simp [State.silenceExpires, h, hd]

theorem State.silenceExpires_in_regulation {s : State} {k : Pinion} {period : Nat}
    (h : s.rc.silenceTimer.get k = some period) (hd : InRegulation s) :
    s.silenceExpires k = (s.updRc fun r => r.silence k).enterTrip (.laneSilent k) period period none := by
  have hn : (s.updRc fun r => r.silence k).rc.drive ≠ .tripped := ne_tripped_of_inRegulation hd
  rw [← State.reportTrip_of_ne_tripped hn]
  rcases hd with hd | hd | hd <;> simp [State.silenceExpires, h, hd]

/-- Settles O40: the pinion is marked silent first; the drive state then decides. -/
theorem silenceTimerExpiryByDriveState : Obligations.SilenceTimerExpiryByDriveState := by
  refine ⟨fun s u k period hlaw h hu => ?running, fun s k h => congrArg Host.Outcome.next (State.silenceExpires_stopped h)⟩
  obtain rfl : u = s.updRc fun r => r.silence k := hu
  refine ⟨fun hd => congrArg Host.Outcome.next (State.silenceExpires_at_rest h hd),
    fun hd => congrArg Host.Outcome.next (State.silenceExpires_ready h hd), fun hd => ?trips⟩
  obtain ⟨hentry, hlanes⟩ := (s.updRc fun r => r.silence k).enterTrip_spec none (by exact hlaw.entries_nodup)
    (.laneSilent k) period period
  exact ⟨_, congrArg Host.Outcome.next (State.silenceExpires_in_regulation h hd), hentry, hlanes⟩

/-! ### The stop timer and the post-trip timer (R8, R144) -/

theorem State.stopExpires_stopped {s : State} (h : s.rc.stopTimer = none) : s.stopExpires = s := by
  simp [State.stopExpires, h]

theorem State.stopExpires_stopping {s : State} (h : s.rc.stopTimer ≠ none) (hd : s.rc.drive = .stopping) :
    s.stopExpires = (s.updRc fun r => { r with stopTimer := none }).enterTrip .stopTimeout s.largerSpeed
      s.dwu.watch.zeroSpeed none := by
  obtain ⟨period, hp⟩ := Option.ne_none_iff_exists'.mp h
  have hn : (s.updRc fun r => { r with stopTimer := none }).rc.drive ≠ .tripped := by simp [hd]
  rw [← State.reportTrip_of_ne_tripped hn]
  simp [State.stopExpires, hp, hd]

/-- The magnitude of a latest speed, an absent record reading as 0 (R8, R10). -/
theorem magnitude_latestSpeed (r : Option LatestSample) :
    magnitude (latestSpeed r) = (r.map fun l => l.n.toInt.natAbs).getD 0 := by
  cases r <;> rfl

theorem State.postTripExpires_stopped {s : State} (h : s.trc.postTimer = false) : s.postTripExpires = s := by
  simp [State.postTripExpires, h]

theorem State.postTripExpires_filling {s : State} {i : Fin 8} (h : s.trc.postTimer = true)
    (hf : s.trc.fillingSlot = some i) : s.postTripExpires = s.closeRecord i := by
  simp [State.postTripExpires, h, hf]

/-- Settles O41: one timer trips the drive, the other closes the record that is FILLING. -/
theorem stopAndPostTripTimers : Obligations.StopAndPostTripTimers := by
  intro s
  refine ⟨fun hlaw hd ht => ?stopping, fun ht => congrArg Host.Outcome.next (State.stopExpires_stopped ht),
    fun i ht hc hf => ?closes, fun ht => congrArg Host.Outcome.next (State.postTripExpires_stopped ht)⟩
  case stopping =>
    obtain ⟨hentry, hlanes⟩ := (s.updRc fun r => { r with stopTimer := none }).enterTrip_spec none
      (by exact hlaw.entries_nodup) .stopTimeout s.largerSpeed s.dwu.watch.zeroSpeed
    rw [← magnitude_latestSpeed, ← magnitude_latestSpeed]
    exact ⟨_, congrArg Host.Outcome.next (State.stopExpires_stopping ht hd), hentry.transfer rfl rfl rfl, hlanes⟩
  case closes =>
    refine ⟨_, congrArg Host.Outcome.next (State.postTripExpires_filling ht (Recorder.fillingSlot_of hc hf)), rfl, fun j => ?_⟩
    rw [State.closeRecord, State.raiseAll_get, LaneState.raise_eq]
    rfl

end Sys2Proof.Machine
end

section
/-! PROOFS. The checks of an arriving SAMPLE: what they report, and what the drive watch is after them. -/

namespace Sys2Proof.Machine

/-! ### Trip entry and the drive watch unit (R15)

No report reads or writes the drive watch unit, so an update of that unit may be made before a report as well as after
it. -/

section
variable (s : State) (f : DriveWatch → DriveWatch)

theorem State.abandonAll_updDwu (l : List Entry) :
    l.foldl State.abandonAtTrip (s.updDwu f) = (l.foldl State.abandonAtTrip s).updDwu f :=
  List.foldl_hom (fun s : State => s.updDwu f) fun _ _ => rfl

theorem State.replyAll_updDwu (l : List Entry) :
    l.foldl (State.replyAbandoned true) (s.updDwu f) = (l.foldl (State.replyAbandoned true) s).updDwu f :=
  List.foldl_hom (fun s : State => s.updDwu f) fun _ _ => rfl

theorem State.writeTrigger_updDwu (e : Option Entry) : (s.updDwu f).writeTrigger e = (s.writeTrigger e).updDwu f := by
  cases e <;> rfl

theorem State.recordTrip_updDwu (cause : Cause) (value limit : Nat) :
    (s.updDwu f).recordTrip cause value limit = (s.recordTrip cause value limit).updDwu f := by
  by_cases hc : s.trc.tripCount < Config.countMax
  · cases hi : ({ s.trc with tripCount := s.trc.tripCount + 1 } : Recorder).chooseSlot <;>
      simp only [State.recordTrip, State.updDwu_trc, State.updTrc_trc, hc, if_true, hi] <;> rfl
  · simp only [State.recordTrip, State.updDwu_trc, hc, if_false]
    rfl

theorem State.retargetPinion_updDwu (k : Pinion) : (s.updDwu f).retargetPinion k = (s.retargetPinion k).updDwu f := by
  have ht : (s.updDwu f).targetOf k = s.targetOf k := rfl
  by_cases h : s.targetOf k < s.slu.limit.get k
  · simp only [State.retargetPinion, ht, State.updDwu_slu, h, if_true]
    rfl
  · simp only [State.retargetPinion, ht, State.updDwu_slu, h, if_false]
    rfl

theorem State.enterRest_updDwu (d : DriveState) : (s.updDwu f).enterRest d = (s.enterRest d).updDwu f := by
  have hretarget : ∀ u : State, (u.updDwu f).retarget = u.retarget.updDwu f := fun u => by
    simp only [State.retarget, State.retargetPinion_updDwu]
  unfold State.enterRest
  rw [← hretarget]
  rfl

theorem State.enterTrip_updDwu (cause : Cause) (value limit : Nat) (trigger : Option Entry) :
    (s.updDwu f).enterTrip cause value limit trigger = (s.enterTrip cause value limit trigger).updDwu f := by
  have hrc : ∀ (u : State) (g : RunControl → RunControl), (u.updDwu f).updRc g = (u.updRc g).updDwu f := fun _ _ => rfl
  unfold State.enterTrip
  simp only [State.updDwu_rau, State.abandonAll_updDwu, State.writeTrigger_updDwu, State.recordTrip_updDwu,
    State.enterRest_updDwu, hrc, State.replyAll_updDwu]
  rfl

theorem State.offerLater_updDwu (cause : Cause) : (s.updDwu f).offerLater cause = (s.offerLater cause).updDwu f := by
  unfold State.offerLater
  rw [State.updDwu_trc]
  cases s.trc.fillingSlot <;> rfl

theorem State.reportTrip_updDwu (cause : Cause) (value limit : Nat) (trigger : Option Entry) :
    (s.updDwu f).reportTrip cause value limit trigger = (s.reportTrip cause value limit trigger).updDwu f := by
  by_cases h : s.rc.drive = .tripped
  · rw [State.reportTrip_of_tripped h, State.reportTrip_of_tripped (by exact h), State.offerLater_updDwu]
  · rw [State.reportTrip_of_ne_tripped h, State.reportTrip_of_ne_tripped (by exact h), State.enterTrip_updDwu]

@[simp] theorem State.reportTrip_dwu (cause : Cause) (value limit : Nat) (trigger : Option Entry) :
    (s.reportTrip cause value limit trigger).dwu = s.dwu :=
  (congrArg State.dwu (s.reportTrip_updDwu (fun _ => s.dwu) cause value limit trigger) :)

end

/-! ### What a report leaves of run control and of the split and limit unit (R9, R15, R17) -/

section
variable (s : State)

theorem State.abandonAll_eq (l : List Entry) : ∃ trc, l.foldl State.abandonAtTrip s = { s with trc := trc } := by
  induction l generalizing s with
  | nil => exact ⟨s.trc, rfl⟩
  | cons e l ih =>
    obtain ⟨trc, h⟩ := ih (s.abandonAtTrip e)
    exact ⟨trc, h⟩

theorem State.enterTrip_rc_slu (cause : Cause) (value limit : Nat) (trigger : Option Entry) :
    (s.enterTrip cause value limit trigger).rc = { s.rc with drive := .tripped, stopTimer := none, ack := .both false } ∧
      (s.enterTrip cause value limit trigger).slu = s.slu.atRest := by
  obtain ⟨trc, habandon⟩ := s.abandonAll_eq s.rau.entries
  obtain ⟨lanes, hreply, -⟩ := replyAll_spec true s.rau.entries
    ((((({ s with trc := trc } : State).writeTrigger trigger).recordTrip cause value limit).enterRest .tripped).updRc
      fun r => { r with ack := .both false })
  unfold State.enterTrip
  dsimp only
  rw [habandon, hreply]
  exact ⟨by simp, by simp [State.enterRest_slu _ .tripped rfl]⟩

@[simp] theorem State.reportTrip_drive (cause : Cause) (value limit : Nat) (trigger : Option Entry) :
    (s.reportTrip cause value limit trigger).rc.drive = .tripped := by
  by_cases h : s.rc.drive = .tripped
  · rw [State.reportTrip_of_tripped h, State.offerLater_rc, h]
  · rw [State.reportTrip_of_ne_tripped h, (s.enterTrip_rc_slu cause value limit trigger).1]

@[simp] theorem State.reportTrip_ceil (cause : Cause) (value limit : Nat) (trigger : Option Entry) :
    (s.reportTrip cause value limit trigger).slu.ceil = s.slu.ceil := by
  by_cases h : s.rc.drive = .tripped
  · rw [State.reportTrip_of_tripped h, State.offerLater_slu]
  · rw [State.reportTrip_of_ne_tripped h, (s.enterTrip_rc_slu cause value limit trigger).2]
    rfl

end

/-! ### Several reports of one arrival (R80) -/

/-- Conditions with their values and limits, reported one after another by the arrival of one sample. -/
def State.reportAll (s : State) (e : Entry) (reports : List (Cause × Nat × Nat)) : State :=
  reports.foldl (fun s r => s.reportTrip r.1 r.2.1 r.2.2 (some e)) s

section
variable (s : State) (e : Entry)

@[simp] theorem State.reportAll_nil : s.reportAll e [] = s := rfl

theorem State.reportAll_cons (r : Cause × Nat × Nat) (rs : List (Cause × Nat × Nat)) :
    s.reportAll e (r :: rs) = (s.reportTrip r.1 r.2.1 r.2.2 (some e)).reportAll e rs := rfl

theorem State.reportAll_append (rs rs' : List (Cause × Nat × Nat)) :
    s.reportAll e (rs ++ rs') = (s.reportAll e rs).reportAll e rs' := List.foldl_append

theorem State.reportAll_updDwu (f : DriveWatch → DriveWatch) (rs : List (Cause × Nat × Nat)) :
    (s.updDwu f).reportAll e rs = (s.reportAll e rs).updDwu f :=
  List.foldl_hom (fun s : State => s.updDwu f) fun _ _ => State.reportTrip_updDwu _ _ _ _ _ _

@[simp] theorem State.reportAll_dwu (rs : List (Cause × Nat × Nat)) : (s.reportAll e rs).dwu = s.dwu :=
  (congrArg State.dwu (s.reportAll_updDwu e (fun _ => s.dwu) rs) :)

@[simp] theorem State.reportAll_ceil (rs : List (Cause × Nat × Nat)) : (s.reportAll e rs).slu.ceil = s.slu.ceil := by
  induction rs generalizing s with
  | nil => rfl
  | cons r rs ih => rw [State.reportAll_cons, ih, State.reportTrip_ceil]

/-- Any report leaves the drive in TRIPPED. -/
theorem State.reportAll_drive {rs : List (Cause × Nat × Nat)} (h : rs ≠ []) : (s.reportAll e rs).rc.drive = .tripped := by
  induction rs generalizing s with
  | nil => exact absurd rfl h
  | cons r rs ih =>
    rw [State.reportAll_cons]
    cases rs with
    | nil => exact s.reportTrip_drive ..
    | cons r' rs => exact ih _ (List.cons_ne_nil _ _)

end

/-! ### The checks of an arrival, each as a list of reports (R13, R80 to R83) -/

/-- What the bridge flags of an arrival report (R13). -/
def bridgeReports (s : State) (k : Pinion) (bridge : Byte) : List (Cause × Nat × Nat) :=
  if bridge.getLsbD 1 = true ∧ s.rc.drive ≠ .halt then [(.bridgeFault k, 0, 0)]
  else if bridge.getLsbD 0 = false ∧ (s.rc.drive = .run ∨ s.rc.drive = .inch ∨ s.rc.drive = .stopping) then
    [(.bridgeDrop k, 0, 0)]
  else []

/-- What the overcurrent check of an arrival reports (R81). -/
def overcurrentReports (s : State) (k : Pinion) (iMeas : Word16) : List (Cause × Nat × Nat) :=
  if s.dwu.watch.oc ≤ iMeas.toInt.natAbs then [(.overcurrent k, iMeas.toInt.natAbs, s.dwu.watch.oc)] else []

/-- What the overload accumulation of an arrival reports (R82, R83). -/
def overloadReports (s : State) (k : Pinion) (iMeas : Word16) : List (Cause × Nat × Nat) :=
  if s.slu.ceil.get k < iMeas.toInt.natAbs ∧
      s.dwu.watch.q ≤ s.dwu.ol.get k + (iMeas.toInt.natAbs - s.slu.ceil.get k) then
    [(.overload k, s.dwu.watch.q, s.dwu.watch.q)]
  else []

theorem firstReports_eq (s : State) (k : Pinion) (iMeas : Word16) (bridge : Byte) :
    firstReports s k iMeas bridge =
      bridgeReports s k bridge ++ overcurrentReports s k iMeas ++ overloadReports s k iMeas := rfl

section
variable (s : State) (e : Entry)

/-- A fault that is reported leaves TRIPPED, where the ready flag is not examined (R13). -/
theorem State.checkBridge_eq (bridge : Byte) :
    (s.checkFault e (bridge.getLsbD 1)).checkReady e (bridge.getLsbD 0) =
      s.reportAll e (bridgeReports s e.pinion bridge) := by
  unfold bridgeReports State.checkFault
  by_cases hf : bridge.getLsbD 1 = true ∧ s.rc.drive ≠ .halt
  · rw [if_pos hf, if_pos hf]
    exact if_neg (by simp [DriveState.regulating])
  · rw [if_neg hf, if_neg hf]
    have hreg : (s.rc.drive = .run ∨ s.rc.drive = .inch ∨ s.rc.drive = .stopping) ↔ s.rc.drive.regulating = true :=
      inRegulation_iff s
    simp only [State.checkReady, hreg]
    split <;> rfl

theorem State.checkOvercurrent_eq :
    s.checkOvercurrent e = s.reportAll e (overcurrentReports s e.pinion e.iMeas) := by
  unfold State.checkOvercurrent overcurrentReports magnitude
  split <;> rfl

theorem State.checkOverload_eq :
    s.checkOverload e = (s.updDwu fun w => { w with ol := w.ol.set e.pinion (loadAfter s e.pinion e.iMeas) }).reportAll e
      (overloadReports s e.pinion e.iMeas) := by
  unfold State.checkOverload overloadReports loadAfter
  by_cases hc : s.slu.ceil.get e.pinion < e.iMeas.toInt.natAbs
  case neg =>
    rw [if_neg (by exact hc), if_neg (not_and_of_not_left _ hc), if_neg hc]
    simp [State.updDwu]
  case pos =>
    have hsum : s.overloadSum e = min (s.dwu.ol.get e.pinion + (e.iMeas.toInt.natAbs - s.slu.ceil.get e.pinion))
        s.dwu.watch.q := rfl
    rw [if_pos (by exact hc), if_pos hc, hsum]
    dsimp only
    by_cases hq : s.dwu.watch.q ≤ s.dwu.ol.get e.pinion + (e.iMeas.toInt.natAbs - s.slu.ceil.get e.pinion)
    · rw [if_pos (And.intro hc hq), Nat.min_eq_right hq, if_pos rfl]
      rfl
    · rw [if_neg (not_and_of_not_right _ hq), if_neg (by omega)]
      rfl

/-- The checks before the imbalance check: the overload sum follows, and the reports come in their order (R13, R80). -/
theorem State.checkSample_eq (bridge : Byte) :
    s.checkSample e (bridge.getLsbD 0) (bridge.getLsbD 1) =
      ((s.updDwu fun w => { w with ol := w.ol.set e.pinion (loadAfter s e.pinion e.iMeas) }).reportAll e
        (firstReports s e.pinion e.iMeas bridge)).checkImbalance e := by
  have hcurrent : ∀ rs, overcurrentReports (s.reportAll e rs) e.pinion e.iMeas = overcurrentReports s e.pinion e.iMeas :=
    fun rs => by simp only [overcurrentReports, State.reportAll_dwu]
  have hload : ∀ rs, overloadReports (s.reportAll e rs) e.pinion e.iMeas = overloadReports s e.pinion e.iMeas :=
    fun rs => by simp only [overloadReports, State.reportAll_dwu, State.reportAll_ceil]
  have hsum : ∀ rs, loadAfter (s.reportAll e rs) e.pinion e.iMeas = loadAfter s e.pinion e.iMeas :=
    fun rs => by simp only [loadAfter, State.reportAll_dwu, State.reportAll_ceil]
  unfold State.checkSample
  rw [State.checkBridge_eq, State.checkOvercurrent_eq, hcurrent, ← State.reportAll_append, State.checkOverload_eq, hload,
    hsum, ← State.reportAll_updDwu, ← State.reportAll_append, firstReports_eq]

/-- What an arrival reports is judged by the drive state, the settings and the sums it meets. -/
theorem firstReports_arrive (s : State) (k : Pinion) (l : LatestSample) (iMeas : Word16) (bridge : Byte) :
    firstReports (s.arrive k l) k iMeas bridge = firstReports s k iMeas bridge := rfl

/-- The imbalance check outside RUN and STOPPING (R87). -/
theorem State.checkImbalance_skip (h : ¬(s.rc.drive = .run ∨ s.rc.drive = .stopping)) : s.checkImbalance e = s := if_neg h

end

/-! ### Everything the checks of an arrival do (R13, R80 to R89) -/

theorem latestCurrent_set (s : State) (k j : Pinion) (l : LatestSample) :
    (latestCurrent ((s.rc.latest.set k (some l)).get j)).toInt = currentAt s k l.iMeas j := by
  rw [Pair.get_set, currentAt]
  split
  · rfl
  · cases s.rc.latest.get j <;> rfl

theorem filterStep_eq (f x : Int) (shift : Nat) : filterStep f x shift = f + (x * 256 - f) / 2 ^ shift := by
  rw [filterStep, Int.shiftRight_eq_div_pow]
  norm_cast

theorem imbalanceLevel_eq (f : Int) : imbalanceLevel f = (f / 256).natAbs :=
  congrArg Int.natAbs (Int.shiftRight_eq_div_pow f 8)

/-- The imbalance check of an arrival that nothing before it has tripped: the filter and the run count follow, and a run
at its persistence is reported (R87 to R89). -/
theorem State.checkImbalance_arrive (s : State) (e : Entry) (l : LatestSample) (ol : Pair Nat) (hl : l.iMeas = e.iMeas)
    (hd : s.rc.drive = .run ∨ s.rc.drive = .stopping) :
    ((s.arrive e.pinion l).updDwu fun w => { w with ol := ol }).checkImbalance e =
      ((s.arrive e.pinion l).updDwu fun w =>
        { w with ol := ol, filter := filterAfter s e.pinion e.iMeas, runCount := runAfter s e.pinion e.iMeas }).reportAll e
        (if s.dwu.watch.persistence ≤ runAfter s e.pinion e.iMeas then
          [(.imbalance, levelAfter s e.pinion e.iMeas, s.dwu.watch.imbalance)]
        else []) := by
  have hx : ((s.arrive e.pinion l).updDwu fun w => { w with ol := ol }).imbalance =
      (currentAt s e.pinion e.iMeas .a - currentAt s e.pinion e.iMeas .b) - (s.slu.iref.a - s.slu.iref.b) := by
    rw [← hl, ← latestCurrent_set, ← latestCurrent_set]
    rfl
  have hfilter : filterStep s.dwu.filter ((s.arrive e.pinion l).updDwu fun w => { w with ol := ol }).imbalance
      s.dwu.watch.shift = filterAfter s e.pinion e.iMeas := by
    rw [hx, filterStep_eq]
    rfl
  have hlevel : imbalanceLevel (filterAfter s e.pinion e.iMeas) = levelAfter s e.pinion e.iMeas := imbalanceLevel_eq _
  have hrun : runCountStep s.dwu.runCount (levelAfter s e.pinion e.iMeas) s.dwu.watch.imbalance =
      runAfter s e.pinion e.iMeas := rfl
  refine (if_pos (by exact hd)).trans ?_
  simp only [State.updDwu_dwu]
  have hdwu : (s.arrive e.pinion l).dwu = s.dwu := rfl
  simp only [hdwu, hfilter, hlevel, hrun]
  split <;> rfl

/-- Everything the checks of an arrival do: the drive watch follows, and then the conditions are reported in their order,
the imbalance only where nothing before it is (R13, R80 to R89). -/
theorem State.checkSample_arrive (s : State) (e : Entry) (n : Word16) (bridge : Byte) :
    ∃ (u : State) (reports : List (Cause × Nat × Nat)),
      u = { s with rc := heardBy s e.pinion e.iMeas n bridge, dwu := u.dwu } ∧ Watched s u e.pinion e.iMeas bridge ∧
      (imbalanceReports s e.pinion e.iMeas bridge →
        reports = [(.imbalance, levelAfter s e.pinion e.iMeas, s.dwu.watch.imbalance)]) ∧
      (¬imbalanceReports s e.pinion e.iMeas bridge → reports = firstReports s e.pinion e.iMeas bridge) ∧
      (s.arrive e.pinion ⟨e.iMeas, n, bridge.getLsbD 0, bridge.getLsbD 1⟩).checkSample e (bridge.getLsbD 0)
        (bridge.getLsbD 1) = u.reportAll e reports := by
  have hcheck := (s.arrive e.pinion ⟨e.iMeas, n, bridge.getLsbD 0, bridge.getLsbD 1⟩).checkSample_eq e bridge
  by_cases hruns : imbalanceRuns s e.pinion e.iMeas bridge
  case pos =>
    obtain ⟨hnone, hd⟩ := hruns
    have himbalance := s.checkImbalance_arrive e ⟨e.iMeas, n, bridge.getLsbD 0, bridge.getLsbD 1⟩
      (s.dwu.ol.set e.pinion (loadAfter s e.pinion e.iMeas)) rfl hd
    refine ⟨_, _, ?_, ⟨fun _ => ?_, fun h => absurd ⟨hnone, hd⟩ h⟩, fun h => if_pos h.2, fun h => ?_,
      (hcheck.trans ?_).trans himbalance⟩
    · rfl
    · rfl
    · rw [if_neg fun hp => h ⟨⟨hnone, hd⟩, hp⟩, hnone]
    · rw [firstReports_arrive, hnone]
      rfl
  case neg =>
    refine ⟨(s.arrive e.pinion ⟨e.iMeas, n, bridge.getLsbD 0, bridge.getLsbD 1⟩).updDwu fun w =>
        { w with ol := w.ol.set e.pinion (loadAfter s e.pinion e.iMeas) }, firstReports s e.pinion e.iMeas bridge, rfl,
      ⟨fun h => absurd h hruns, fun _ => rfl⟩, fun h => absurd h.1 hruns, fun _ => rfl, hcheck.trans ?_⟩
    refine State.checkImbalance_skip _ e fun hd => ?_
    by_cases hnone : firstReports s e.pinion e.iMeas bridge = []
    · rw [firstReports_arrive, hnone] at hd
      exact hruns ⟨hnone, hd⟩
    · rw [State.reportAll_drive _ e (by exact hnone)] at hd
      rcases hd with hd | hd <;> cases hd

end Sys2Proof.Machine
end

section
/-! PROOFS. An arriving SAMPLE after its checks: the zero-speed test, the demand, the current regulator. -/

namespace Sys2Proof.Machine

/-! ### The steps behind the checks (R7, R26, R27, R64, R77) -/

/-- What an arrival goes through after its checks: the zero-speed test, its demand, and the current regulator. -/
def State.finishSample (s : State) (lane : Lane) (k : Pinion) (e : Entry) (demand : Option Word16) (tripped : Bool) :
    State :=
  (s.zeroSpeedTest.takeDemand k demand).regulate lane
    { e with demand := s.zeroSpeedTest.usesDemand k demand, demandIgnored := s.zeroSpeedTest.ignoresDemand k demand }
    tripped

theorem State.sampleArrives_eq (s : State) (lane : Lane) (k : Pinion) (iMeas n : Word16) (counter bridge : Byte)
    (demand : Option Word16) (u : State)
    (hu : (s.arrive k ⟨iMeas, n, bridge.getLsbD 0, bridge.getLsbD 1⟩).checkSample
      ⟨k, iMeas, n, counter, false, false, s.rc.drive⟩ (bridge.getLsbD 0) (bridge.getLsbD 1) = u) :
    s.sampleArrives lane k iMeas n counter bridge demand =
      u.finishSample lane k ⟨k, iMeas, n, counter, false, false, s.rc.drive⟩ demand
        (s.rc.drive != .tripped && u.rc.drive == .tripped) := by
  subst hu
  rfl

/-- Everything a taken SAMPLE does before the zero-speed test (R10, R11, R13, R80). -/
theorem exec_sample_eq {s : State} {lane : Lane} {k : Pinion} {iMeas n : Word16} {counter bridge : Byte}
    {demand : Option Word16} (h : Takes s lane .sample) (hk : (s.lanes.get lane).role = pinionRole k) :
    ∃ (u : State) (reports : List (Cause × Nat × Nat)),
      u = { s.closeSelection lane (requestFrame .sample (samplePayload iMeas n counter bridge demand)) with
        rc := heardBy s k iMeas n bridge, dwu := u.dwu } ∧
      Watched s u k iMeas bridge ∧
      (imbalanceReports s k iMeas bridge → reports = [(.imbalance, levelAfter s k iMeas, s.dwu.watch.imbalance)]) ∧
      (¬imbalanceReports s k iMeas bridge → reports = firstReports s k iMeas bridge) ∧
      exec (.sample lane iMeas n counter bridge demand) s =
        .next ((u.reportAll ⟨k, iMeas, n, counter, false, false, s.rc.drive⟩ reports).finishSample lane k
          ⟨k, iMeas, n, counter, false, false, s.rc.drive⟩ demand
          (s.rc.drive != .tripped &&
            (u.reportAll ⟨k, iMeas, n, counter, false, false, s.rc.drive⟩ reports).rc.drive == .tripped)) := by
  generalize hbytes : requestFrame .sample (samplePayload iMeas n counter bridge demand) = bytes
  obtain ⟨u, reports, hu, hw, hi, hf, hcheck⟩ := (s.closeSelection lane bytes).checkSample_arrive
    ⟨k, iMeas, n, counter, false, false, s.rc.drive⟩ n bridge
  refine ⟨u, reports, hu, hw, hi, hf, ?_⟩
  have hrole : ((s.closeSelection lane bytes).lanes.get lane).role.pinion? = some k := by
    rw [State.closeSelection_role, hk, pinion?_pinionRole]
  have hbody : (s.closeSelection lane bytes).takeSample lane iMeas n counter bridge demand =
      (s.closeSelection lane bytes).sampleArrives lane k iMeas n counter bridge demand := by
    simp only [State.takeSample, hrole]
  have hx : exec (.sample lane iMeas n counter bridge demand) s = .next (s.request lane .sample
      (samplePayload iMeas n counter bridge demand) fun s => s.takeSample lane iMeas n counter bridge demand) := rfl
  refine exec_eq_of_takes hx h ?_
  rw [hbytes, hbody, State.sampleArrives_eq _ lane k iMeas n counter bridge demand _ hcheck]
  rfl

section
variable (s : State) (k : Pinion) (demand : Option Word16)

theorem State.ignoresDemand_eq : s.ignoresDemand k demand = decide (demand ≠ none ∧ k ≠ s.slu.lead) := by
  cases demand <;> cases k <;> cases h : s.slu.lead <;> simp [State.ignoresDemand, h]

theorem State.usesDemand_at_rest (h : s.rc.drive.regulating = false) : s.usesDemand k demand = false := by
  simp [State.usesDemand, h]

theorem State.usesDemand_in_regulation (h : s.rc.drive.regulating = true) :
    s.usesDemand k demand = decide (demand ≠ none ∧ k = s.slu.lead) := by
  cases demand <;> cases k <;> cases hl : s.slu.lead <;> simp [State.usesDemand, h, hl]

theorem State.takeDemand_unused (h : s.usesDemand k demand = false) : s.takeDemand k demand = s := by
  cases demand <;> simp [State.takeDemand, h]

theorem State.zeroSpeedTest_skip (h : ¬(s.rc.drive = .stopping ∧ s.atZeroSpeed = true)) : s.zeroSpeedTest = s := if_neg h

theorem State.zeroSpeedTest_ends (h : s.rc.drive = .stopping) (hz : s.atZeroSpeed = true) : s.zeroSpeedTest = s.endStop :=
  if_pos ⟨h, hz⟩

/-- The demand of an arrival in regulation: split where it comes from the lead pinion (R27, R29 to R31). -/
theorem State.takeDemand_spec (h : s.rc.drive.regulating = true) :
    Split s.slu (s.takeDemand k demand).slu k demand ∧
      s.takeDemand k demand = { s with slu := (s.takeDemand k demand).slu } := by
  by_cases hu : demand ≠ none ∧ k = s.slu.lead
  · obtain ⟨T, rfl⟩ := Option.ne_none_iff_exists'.mp hu.1
    have ht : s.takeDemand k (some T) = s.split T.toInt :=
      if_pos ((s.usesDemand_in_regulation k (some T) h).trans (decide_eq_true hu))
    rw [ht]
    exact s.split_spec k T hu.2
  · have ht : s.takeDemand k demand = s :=
      s.takeDemand_unused k demand (by rw [s.usesDemand_in_regulation k _ h]; exact decide_eq_false hu)
    rw [ht]
    refine ⟨⟨fun T hT hk => absurd ⟨?_, hk⟩ hu, fun _ => rfl⟩, rfl⟩
    rw [hT]
    exact Option.some_ne_none T

end

/-- Outside regulation a sample is answered at once (R77). -/
theorem State.answerAtRest_of_regulating_false {s : State} (lane : Lane) (k : Pinion) (e : Entry)
    (demand : Option Word16) (tripped : Bool) (h : s.rc.drive.regulating = false) :
    (s.takeDemand k demand).regulate lane
        { e with demand := s.usesDemand k demand, demandIgnored := s.ignoresDemand k demand } tripped =
      s.answerAtRest lane { e with demand := false, demandIgnored := decide (demand ≠ none ∧ k ≠ s.slu.lead) } tripped := by
  have huse := s.usesDemand_at_rest k demand h
  rw [s.takeDemand_unused k demand huse, huse, State.ignoresDemand_eq]
  exact if_neg (by rw [h]; decide)

theorem State.finishSample_at_rest {s : State} (lane : Lane) (k : Pinion) (e e' : Entry) (demand : Option Word16)
    (tripped : Bool) (h : s.rc.drive.regulating = false)
    (he : e' = { e with demand := false, demandIgnored := decide (demand ≠ none ∧ k ≠ s.slu.lead) }) :
    s.finishSample lane k e demand tripped = s.answerAtRest lane e' tripped := by
  have hz : s.zeroSpeedTest = s := s.zeroSpeedTest_skip fun hs => by rw [hs.1] at h; cases h
  rw [State.finishSample, hz, State.answerAtRest_of_regulating_false lane k e demand tripped h, he]

theorem State.finishSample_in_regulation {s : State} (lane : Lane) (k : Pinion) (e : Entry) (demand : Option Word16)
    (tripped : Bool) (h : s.rc.drive.regulating = true) (hz : ¬(s.rc.drive = .stopping ∧ s.atZeroSpeed = true)) :
    s.finishSample lane k e demand tripped =
      (s.takeDemand k demand).enterRau
        { e with
          demand := decide (demand ≠ none ∧ k = s.slu.lead), demandIgnored := decide (demand ≠ none ∧ k ≠ s.slu.lead) } := by
  have hd : (s.takeDemand k demand).rc.drive.regulating = true := by rw [(s.takeDemand_spec k demand h).2]; exact h
  rw [State.finishSample, s.zeroSpeedTest_skip hz, s.usesDemand_in_regulation k demand h, State.ignoresDemand_eq]
  exact if_pos hd

/-! ### The watch settings and the speeds after an arrival -/

/-- The checks of an arrival leave the watch settings alone (R82, R88, R89). -/
theorem Watched.watch_eq {s t : State} {k : Pinion} {iMeas : Word16} {bridge : Byte} (h : Watched s t k iMeas bridge) :
    t.dwu.watch = s.dwu.watch := by
  by_cases hr : imbalanceRuns s k iMeas bridge
  · rw [h.1 hr]
  · rw [h.2 hr]

theorem atZeroSpeed_iff {s u : State} {k : Pinion} {iMeas n : Word16} {bridge : Byte}
    (hrc : u.rc = heardBy s k iMeas n bridge) (hw : u.dwu.watch = s.dwu.watch) :
    u.atZeroSpeed = true ↔ NearStandstill s k n := by
  unfold State.atZeroSpeed NearStandstill
  rw [hrc, hw, Bool.and_eq_true, decide_eq_true_eq, decide_eq_true_eq, magnitude_latestSpeed, magnitude_latestSpeed]
  cases k
  · rfl
  · exact and_comm

/-! ### A sample in regulation (R64, R70, R72, R162) -/

theorem Rau.holds_iff (r : Rau) (k : Pinion) : r.holds k = true ↔ ∃ e ∈ r.entries, e.pinion = k := by
  unfold Rau.holds Rau.entries
  cases r.inFlight <;> simp

theorem State.lanePending_eq {s : State} {lane : Lane} {k : Pinion} (h : (s.lanes.get lane).role = pinionRole k) :
    s.lanePending lane = s.rau.holds k := by
  simp [State.lanePending, h]

theorem State.enterRau_idle {s : State} {e : Entry} (h : s.rau.inFlight = none) :
    s.enterRau e = s.startComputation e := by
  simp only [State.enterRau, h]

theorem State.enterRau_busy {s : State} {e : Entry} {c : Computation} (h : s.rau.inFlight = some c) :
    s.enterRau e = s.updRau fun r => { r with waiting := r.waiting ++ [e] } := by
  simp only [State.enterRau, h]

/-- Everything the entry of a computation into the RAU does (R61, R70, R72). -/
theorem State.enterRau_spec (s : State) (e : Entry) :
    s.enterRau e = { s with crg := (s.enterRau e).crg, rau := (s.enterRau e).rau } ∧
      (s.rau.inFlight = none → ∃ c, Starts s.slu s.crg (s.enterRau e).crg e c ∧ (s.enterRau e).rau = ⟨some c, s.rau.waiting⟩) ∧
      (∀ c, s.rau.inFlight = some c →
        (s.enterRau e).crg = s.crg ∧ (s.enterRau e).rau = ⟨some c, s.rau.waiting ++ [e]⟩) ∧
      (s.enterRau e).rau.holds e.pinion = true := by
  cases hi : s.rau.inFlight with
  | none =>
    obtain ⟨c, heq, hstarts⟩ := s.startComputation_spec e
    have hentry : c.entry = e := congrArg Computation.entry hstarts.2.2
    have hrau : (s.startComputation e).rau = { s.rau with inFlight := some c } := congrArg State.rau heq
    rw [State.enterRau_idle hi]
    refine ⟨by rw [heq], fun _ => ⟨c, hstarts, hrau⟩, fun c' hc => (Option.some_ne_none c' hc.symm).elim, ?_⟩
    rw [Rau.holds_iff]
    refine ⟨e, ?_, rfl⟩
    simp only [hrau, Rau.entries, hentry, List.mem_cons_self]
  | some c =>
    rw [State.enterRau_busy hi]
    refine ⟨rfl, fun h => (Option.some_ne_none c h).elim, fun c' hc => ⟨rfl, ?_⟩, ?_⟩
    · cases hc
      simp only [State.updRau_rau, hi]
    · rw [Rau.holds_iff]
      exact ⟨e, by simp [Rau.entries, hi], rfl⟩

/-- An arrival without a report leaves the drive state and reports nothing (R13, R80, R89). -/
theorem Calm.reports_eq_nil {s : State} {k : Pinion} {iMeas : Word16} {bridge : Byte} {reports : List (Cause × Nat × Nat)}
    (h : Calm s k iMeas bridge)
    (hr : ¬imbalanceReports s k iMeas bridge → reports = firstReports s k iMeas bridge) : reports = [] :=
  (hr h.2).trans h.1

/-- Settles O48: regulation goes on, so the answer waits and the RAU takes the computation up. -/
theorem sampleInRegulationEntersTheRau : Obligations.SampleInRegulationEntersTheRau := by
  intro s lane k iMeas n counter bridge demand h hk hreg hcalm hspeed
  obtain ⟨u, reports, hu, hw, -, hreports, hexec⟩ := exec_sample_eq (iMeas := iMeas) (n := n) (counter := counter)
    (bridge := bridge) (demand := demand) h hk
  obtain rfl := hcalm.reports_eq_nil hreports
  rw [State.reportAll_nil] at hexec
  have hrc : u.rc = heardBy s k iMeas n bridge := by rw [hu]
  have hslu : u.slu = s.slu := by rw [hu]; rfl
  have hcrg : u.crg = s.crg := by rw [hu]; rfl
  have hrau : u.rau = s.rau := by rw [hu]; rfl
  have hd : u.rc.drive = s.rc.drive := by rw [hrc]; rfl
  have hregulating : u.rc.drive.regulating = true := by rw [hd]; exact (inRegulation_iff s).mp hreg
  have hz : ¬(u.rc.drive = .stopping ∧ u.atZeroSpeed = true) := by rwa [hd, atZeroSpeed_iff hrc hw.watch_eq]
  rw [State.finishSample_in_regulation lane k _ demand _ hregulating hz, hslu] at hexec
  obtain ⟨hsplit, htake⟩ := u.takeDemand_spec k demand hregulating
  generalize u.takeDemand k demand = v at hsplit htake hexec
  have hvcrg : v.crg = s.crg := by rw [htake]; exact hcrg
  have hvrau : v.rau = s.rau := by rw [htake]; exact hrau
  obtain ⟨heq, hidle, hbusy, hholds⟩ := v.enterRau_spec
    ⟨k, iMeas, n, counter, decide (demand ≠ none ∧ k = s.slu.lead), decide (demand ≠ none ∧ k ≠ s.slu.lead), s.rc.drive⟩
  rw [hvcrg, hvrau] at hidle hbusy
  rw [hslu] at hsplit
  refine ⟨_, _, hexec, rfl, ?_, ?_, ?_, ?_, hbusy, ?_⟩
  · rw [State.enterRau_dwu, State.enterRau_slu]
    refine heq.trans ?_
    rw [htake, hu]
    rfl
  · unfold Watched
    rw [State.enterRau_dwu, htake]
    exact hw
  · rw [State.enterRau_slu]
    exact hsplit
  · rw [State.enterRau_slu]
    exact hidle
  · refine (State.lanePending_eq ?_).trans hholds
    rw [State.enterRau_lanes, htake, hu]
    exact (State.closeSelection_role ..).trans hk

end Sys2Proof.Machine
end

section
/-! PROOFS. A SAMPLE outside regulation, which the current regulator answers at once. -/

namespace Sys2Proof.Machine

/-! ### The answer outside regulation (R77) -/

theorem State.answerAtRest_written (s : State) (lane : Lane) (e : Entry) :
    s.answerAtRest lane e false =
      (s.writeRecord e.pinion e.counter (s.draft e)).answer lane .sample .ok
        ((s.writeRecord e.pinion e.counter (s.draft e)).sampleReply e.pinion 0
          ⟨e.demandIgnored, false, false, false, false⟩) := rfl

theorem State.answerAtRest_tripped (s : State) (lane : Lane) (e : Entry) :
    s.answerAtRest lane e true =
      s.answer lane .sample .ok (s.sampleReply e.pinion 0 ⟨e.demandIgnored, false, false, false, true⟩) := rfl

theorem State.writeRecord_frame (s : State) (k : Pinion) (counter : Byte) (x : Snapshot) :
    s.writeRecord k counter x =
      { s with lanes := (s.writeRecord k counter x).lanes, trc := (s.writeRecord k counter x).trc } := by
  apply State.ext_fields <;> simp

/-- A reply reads the limit chain and the drive state (R35, R73, R74). -/
theorem SampleReply.congr {s t : State} {k : Pinion} {v : Int} {ignored hi lo new trip : Bool} {r : Reply}
    (h : SampleReply s k v ignored hi lo new trip r) (hslu : t.slu = s.slu) (hd : t.rc.drive = s.rc.drive) :
    SampleReply t k v ignored hi lo new trip r := by
  unfold SampleReply
  rw [hslu, hd]
  exact h

/-- The notice of a record that closes is the same on every lane (R144). -/
theorem CloseBit.const {s : State} {k : Pinion} {f : LaneState → Byte} (h : CloseBit s k f) (l l' : LaneState) :
    f l = f l' := by
  by_cases hc : ∃ i, ClosesAt s k i
  · rw [h.1 hc]
  · rw [h.2 fun i hi => hc ⟨i, hi⟩]
    rfl

/-! ### Later causes of one arrival (R17, R142) -/

/-- Reports in TRIPPED are later causes. -/
theorem offered_reportAll (s : State) (e : Entry) (reports : List (Cause × Nat × Nat)) (h : s.rc.drive = .tripped) :
    Offered s (s.reportAll e reports) (reports.map (·.1)) := by
  induction reports generalizing s with
  | nil => exact .nil s
  | cons r rs ih =>
    rw [State.reportAll_cons, State.reportTrip_of_tripped h]
    obtain ⟨hlater, heq⟩ := s.offerLater_spec r.1
    exact .cons s _ _ r.1 _ hlater heq (ih _ (by rw [State.offerLater_rc, h]))

/-- Later causes do not look at the lanes. -/
theorem Offered.withLanes {s t : State} {causes : List Cause} (h : Offered s t causes) (lanes : Four LaneState) :
    Offered { s with lanes := lanes } { t with lanes := lanes } causes := by
  induction h with
  | nil s => exact .nil _
  | cons s u t cause rest hlater heq _ ih =>
    exact .cons _ { u with lanes := lanes } _ cause rest hlater
      (congrArg (fun x : State => { x with lanes := lanes }) heq) ih

theorem State.reportAll_tripped_frame (s : State) (e : Entry) (reports : List (Cause × Nat × Nat))
    (h : s.rc.drive = .tripped) :
    s.reportAll e reports = { s with trc := { s.trc with slots := (s.reportAll e reports).trc.slots } } := by
  induction reports generalizing s with
  | nil => rfl
  | cons r rs ih =>
    rw [State.reportAll_cons, State.reportTrip_of_tripped h, ih _ (by rw [State.offerLater_rc, h]),
      (s.offerLater_spec r.1).2]

/-! ### A SAMPLE outside regulation (R10, R17, R77) -/

/-- The reports of an arrival in TRIPPED, or in HALT or READY where no check reports, are those before the imbalance
check, and they leave all but the later causes as it was. -/
theorem reportAll_outside_regulation {s u : State} {k : Pinion} {iMeas : Word16} {bridge : Byte} (e : Entry)
    {reports : List (Cause × Nat × Nat)}
    (hd : s.rc.drive = .tripped ∨ ((s.rc.drive = .halt ∨ s.rc.drive = .ready) ∧ Calm s k iMeas bridge))
    (hu : u.rc.drive = s.rc.drive)
    (hr : ¬imbalanceReports s k iMeas bridge → reports = firstReports s k iMeas bridge) :
    Offered u (u.reportAll e reports) ((firstReports s k iMeas bridge).map (·.1)) ∧
      u.reportAll e reports = { u with trc := { u.trc with slots := (u.reportAll e reports).trc.slots } } := by
  rcases hd with hd | ⟨-, hcalm⟩
  · have hskip : ¬imbalanceReports s k iMeas bridge := fun h => by
      rcases h.1.2 with h | h <;> rw [hd] at h <;> cases h
    rw [← hr hskip]
    exact ⟨offered_reportAll u e reports (hu.trans hd), u.reportAll_tripped_frame e reports (hu.trans hd)⟩
  · rw [hcalm.1, hcalm.reports_eq_nil hr]
    exact ⟨.nil u, rfl⟩

/-- Settles O47: without a trip the sample is answered at rest, whatever its reports added to the record. -/
theorem sampleOutsideRegulation : Obligations.SampleOutsideRegulation := by
  intro s lane k iMeas n counter bridge demand h hk hd
  obtain ⟨u, reports, hu, hw, -, hreports, hexec⟩ := exec_sample_eq (iMeas := iMeas) (n := n) (counter := counter)
    (bridge := bridge) (demand := demand) h hk
  have hdrive : u.rc.drive = s.rc.drive := by rw [hu]; rfl
  obtain ⟨hoffered, hframe⟩ := reportAll_outside_regulation ⟨k, iMeas, n, counter, false, false, s.rc.drive⟩ hd hdrive
    hreports
  generalize hv : u.reportAll ⟨k, iMeas, n, counter, false, false, s.rc.drive⟩ reports = v at hoffered hframe hexec
  have hvdrive : v.rc.drive = s.rc.drive := by rw [hframe]; exact hdrive
  have hvslu : v.slu = s.slu := by rw [hframe, hu]; rfl
  have hvlanes : v.lanes = (s.closeSelection lane
      (requestFrame .sample (samplePayload iMeas n counter bridge demand))).lanes := by rw [hframe, hu]
  have hrest : v.rc.drive.regulating = false := by
    rw [hvdrive]
    rcases hd with hd | ⟨hd | hd, -⟩ <;> rw [hd] <;> rfl
  have htripped : (s.rc.drive != .tripped && v.rc.drive == .tripped) = false := by
    rw [hvdrive]
    cases s.rc.drive <;> rfl
  obtain ⟨e, he⟩ : ∃ e : Entry,
      e = ⟨k, iMeas, n, counter, false, decide (demand ≠ none ∧ k ≠ s.slu.lead), s.rc.drive⟩ := ⟨_, rfl⟩
  have hpinion : e.pinion = k := by rw [he]
  have hcounter : e.counter = counter := by rw [he]
  have hrecord : v.trc.complete k counter (v.draft e) false = sampleRecord v e 0 false false := by
    rw [← hpinion, ← hcounter]
    rfl
  rw [htripped, State.finishSample_at_rest lane k _ e demand false hrest (by rw [he, hvslu]),
    State.answerAtRest_written, hpinion, hcounter] at hexec
  obtain ⟨hwritten, f, hclose, hnotices⟩ := v.writeRecord_spec k counter (v.draft e)
  have hwframe := State.writeRecord_frame v k counter (v.draft e)
  generalize v.writeRecord k counter (v.draft e) = w at hexec hwritten hnotices hwframe
  rw [hrecord] at hwritten
  refine ⟨_, { u with lanes := s.lanes }, { v with lanes := s.lanes }, e, f, _, hexec, he, ?_, hw,
    hoffered.withLanes s.lanes, ?_, hwritten, hclose,
    (w.sampleReply_spec k 0 e.demandIgnored false false false false).congr (by rw [hwframe, hvslu])
      (by rw [hwframe, hvdrive]), ?_⟩
  · rw [hu]
    rfl
  · rw [hwframe]
    rfl
  · refine answered_of_onlyNotices (fun j => ?_) (fun j => hclose.const _ _) .ok _
    rw [← hvlanes]
    exact hnotices j

end Sys2Proof.Machine
end

section
/-! PROOFS. A SAMPLE whose own arrival trips the drive. -/

namespace Sys2Proof.Machine

/-! ### Later causes of the event that trips the drive (R140, R142) -/

section
variable {s t : State} {cause : Cause} {value limit : Nat} {trigger : Option Entry} {later : List Cause}

/-- A cause that is new to the record joins its later-cause list, where the trip has a record (R142). -/
theorem Recorded.offered {u : State} {c : Cause} (h : Recorded s t cause value limit later) (hlater : LaterCause t u c)
    (htrc : u.trc = { t.trc with slots := u.trc.slots }) (hc : c ≠ cause) (hm : c ∉ later) (hlen : later.length < 4) :
    Recorded s u cause value limit (later ++ [c]) := by
  obtain ⟨hnone, hsome⟩ := hlater
  rcases h with ⟨i, hcount, hchosen, hslots, hn, hcurrent, hrest⟩ | ⟨hfull, hslots, hn, hcurrent, hrest⟩
  · have hslot := congrArg (Eight.get · i) hslots
    simp only [Eight.get_set_self] at hslot
    have hnew := hsome i hcurrent (by rw [hslot])
    simp only [hslot, hc, hm, or_self, if_false, hlen, if_true] at hnew
    rw [hslots, Eight.set_set] at hnew
    refine .inl ⟨i, hcount, hchosen, ?_⟩
    rw [TakesSlot, htrc]
    exact ⟨hnew, hn, hcurrent, hrest⟩
  · have hsame := hnone fun ⟨i, hi, _⟩ => by rw [hcurrent] at hi; cases hi
    refine .inr ⟨hfull, ?_⟩
    rw [Overflows, htrc]
    exact ⟨hsame.trans hslots, hn, hcurrent, hrest⟩

theorem TripEntered.offerLater {c : Cause} (h : TripEntered s t cause value limit trigger later) (hc : c ≠ cause)
    (hm : c ∉ later) (hlen : later.length < 4) :
    TripEntered s (t.offerLater c) cause value limit trigger (later ++ [c]) := by
  obtain ⟨hlater, heq⟩ := t.offerLater_spec c
  have htable := Recorded.offered h.table hlater (congrArg State.trc heq) hc hm hlen
  rw [heq] at htable ⊢
  exact ⟨h.rc, h.slu, h.crg, h.rau, h.others, h.lost, h.sample, h.kept, htable⟩

/-- The reports behind the first one of an event are later causes of its trip (R17, R142). -/
theorem TripEntered.reportAll (e : Entry) (reports : List (Cause × Nat × Nat))
    (h : TripEntered s t cause value limit trigger later) (hnew : (cause :: (later ++ reports.map (·.1))).Nodup)
    (hlen : later.length + reports.length ≤ 4) :
    TripEntered s (t.reportAll e reports) cause value limit trigger (later ++ reports.map (·.1)) := by
  induction reports generalizing t later with
  | nil => simpa using h
  | cons r rs ih =>
    have hdrive : t.rc.drive = .tripped := by rw [h.rc]
    have hsplit : later ++ (r :: rs).map (·.1) = (later ++ [r.1]) ++ rs.map (·.1) := by simp
    rw [hsplit] at hnew ⊢
    have hc : r.1 ≠ cause := fun hc => (List.nodup_cons.mp hnew).1 (by simp [hc])
    have hm : r.1 ∉ later := fun hm => by
      have hd := (List.nodup_append.mp (List.nodup_append.mp (List.nodup_cons.mp hnew).2).1).2.2
      exact hd r.1 hm r.1 (List.mem_singleton_self _) rfl
    rw [List.length_cons] at hlen
    rw [State.reportAll_cons, State.reportTrip_of_tripped hdrive]
    exact ih (h.offerLater hc hm (by omega)) hnew (by rw [List.length_append, List.length_singleton]; omega)

end

/-- The checks before the imbalance check report each cause once (R80). -/
theorem firstReports_nodup (s : State) (k : Pinion) (iMeas : Word16) (bridge : Byte) :
    ((firstReports s k iMeas bridge).map (·.1)).Nodup ∧ (firstReports s k iMeas bridge).length ≤ 3 := by
  rw [firstReports_eq]
  have hbridge : bridgeReports s k bridge = [] ∨ bridgeReports s k bridge = [(.bridgeFault k, 0, 0)] ∨
      bridgeReports s k bridge = [(.bridgeDrop k, 0, 0)] := by
    unfold bridgeReports
    split
    · simp
    · split <;> simp
  have hcurrent : overcurrentReports s k iMeas = [] ∨ ∃ x, overcurrentReports s k iMeas = [(.overcurrent k, x)] := by
    unfold overcurrentReports
    split <;> simp
  have hload : overloadReports s k iMeas = [] ∨ ∃ x, overloadReports s k iMeas = [(.overload k, x)] := by
    unfold overloadReports
    split <;> simp
  rcases hbridge with hb | hb | hb <;> rcases hcurrent with hc | ⟨x, hc⟩ <;> rcases hload with hl | ⟨y, hl⟩ <;>
    simp [hb, hc, hl]

/-! ### The lanes after a request whose event answers other samples too (R75, R163) -/

/-- A selection that may take a sample of pinion k leaves no computation of k in the RAU (R158, R162). -/
theorem RauLaw.entries_ne {s : State} {lane : Lane} {k : Pinion} (h : RauLaw s) (ht : Takes s lane .sample)
    (hk : (s.lanes.get lane).role = pinionRole k) : ∀ e ∈ s.rau.entries, e.pinion ≠ k := by
  obtain ⟨_, hholder, _⟩ := h
  have hidle := hholder lane ht.1
  rw [State.lanePending_eq hk] at hidle
  intro e he hek
  rw [(Rau.holds_iff _ _).mpr ⟨e, he, hek⟩] at hidle
  cases hidle

/-- The reply to a sample while the split and limit unit is at rest (R9, R77). -/
theorem State.sampleReply_atRest {s : State} {u : ShareLimit} (h : s.slu = u.atRest) (k : Pinion) (f : SampleFlags) :
    s.sampleReply k 0 f =
      [0, 0, 0, 0, 0, 0, packBits [false, false, f.ignored, f.satHi, f.satLo, f.newGains, f.tripped]] := by
  simp only [State.sampleReply, State.limitedFlag, h, ShareLimit.atRest]
  cases k <;> simp [int16, nat16, be16]

theorem packBits_tripped (p : Prop) [Decidable p] :
    packBits [false, false, decide p, false, false, false, true] = if p then (0x44 : Byte) else 0x40 := by
  by_cases h : p <;> simp only [h] <;> decide

/-! ### A SAMPLE whose own arrival trips the drive (R13, R16, R77) -/

/-- The reports of an arrival, where one reports: the first one trips the drive (R14). -/
theorem reports_eq_cons {s : State} {k : Pinion} {iMeas : Word16} {bridge : Byte} {cause : Cause} {value limit : Nat}
    {reports rest : List (Cause × Nat × Nat)}
    (h : firstReports s k iMeas bridge = (cause, value, limit) :: rest ∨
      (imbalanceReports s k iMeas bridge ∧
        (cause, value, limit) = (Cause.imbalance, levelAfter s k iMeas, s.dwu.watch.imbalance) ∧ rest = []))
    (hi : imbalanceReports s k iMeas bridge →
      reports = [(.imbalance, levelAfter s k iMeas, s.dwu.watch.imbalance)])
    (hf : ¬imbalanceReports s k iMeas bridge → reports = firstReports s k iMeas bridge) :
    reports = (cause, value, limit) :: rest ∧ (reports.map (·.1)).Nodup ∧ reports.length ≤ 3 := by
  rcases h with h | ⟨himb, hhead, rfl⟩
  · have hr : reports = firstReports s k iMeas bridge := hf fun himb => by
      rw [himb.1.1] at h
      cases h
    rw [hr]
    exact ⟨h, firstReports_nodup s k iMeas bridge⟩
  · rw [hi himb, hhead]
    simp

/-- Settles O50: the first report enters TRIPPED, and the reports behind it are offered to its record. -/
theorem sampleTripsTheDrive : Obligations.SampleTripsTheDrive := by
  intro s lane k iMeas n counter bridge demand cause value limit rest hlaw h hk hd hfirst
  obtain ⟨u, reports, hu, hw, himbalance, hreports, hexec⟩ := exec_sample_eq (iMeas := iMeas) (n := n)
    (counter := counter) (bridge := bridge) (demand := demand) h hk
  obtain ⟨rfl, hnew, hlen⟩ := reports_eq_cons hfirst himbalance hreports
  obtain ⟨e, he⟩ : ∃ e : Entry, e = ⟨k, iMeas, n, counter, false, false, s.rc.drive⟩ := ⟨_, rfl⟩
  rw [← he] at hexec
  have hud : u.rc.drive ≠ .tripped := by rw [hu]; exact hd
  have hurau : u.rau = s.rau := by rw [hu]; rfl
  have huslu : u.slu = s.slu := by rw [hu]; rfl
  have hnodup : (((some e).toList ++ u.rau.entries).map (·.pinion)).Nodup := by
    rw [hurau, he]
    refine List.nodup_cons.mpr ⟨fun hm => ?_, hlaw.entries_nodup⟩
    obtain ⟨x, hx, hxk⟩ := List.mem_map.mp hm
    exact hlaw.entries_ne h hk x hx hxk
  obtain ⟨hentry, hlanes⟩ := u.enterTrip_spec (some e) hnodup cause value limit
  rw [State.reportAll_cons, State.reportTrip_of_ne_tripped hud] at hexec
  have hafter := hentry.reportAll e rest hnew (by simpa using (Nat.le_of_succ_le_succ hlen).trans (by decide))
  have hframe := State.reportAll_tripped_frame (u.enterTrip cause value limit (some e)) e rest (by rw [hentry.rc])
  generalize (u.enterTrip cause value limit (some e)).reportAll e rest = v at hexec hafter hframe
  have hvlanes : ∀ j, v.lanes.get j = (u.lanes.get j).tripped u v.trc.current := by
    rw [hframe]
    exact hlanes
  obtain ⟨_, _, _, hdwu, _⟩ := hafter.others
  have hvd : v.rc.drive = .tripped := by rw [hafter.rc]
  have htripped : (s.rc.drive != .tripped && v.rc.drive == .tripped) = true := by simp [hd, hvd]
  have hlead : v.slu.lead = s.slu.lead := by rw [hafter.slu, huslu]; rfl
  rw [htripped, State.finishSample_at_rest lane k e _ demand true (by rw [hvd]; rfl) rfl, State.answerAtRest_tripped,
    State.sampleReply_atRest hafter.slu, packBits_tripped, hlead] at hexec
  refine ⟨_, { u with lanes := s.lanes }, e, hexec, he, ?_, ?_, ?_, fun j => ?_⟩
  · rw [State.answer_dwu, hdwu, hu]
    rfl
  · unfold Watched
    rw [State.answer_dwu, hdwu]
    exact hw
  · exact hafter.transfer rfl rfl rfl
  · have hj := answer_lanes_of_update (s := s) (lane := lane) (kind := .sample) (status := .ok)
      (bytes := requestFrame .sample (samplePayload iMeas n counter bridge demand))
      (reply := [0, 0, 0, 0, 0, 0, if demand ≠ none ∧ k ≠ s.slu.lead then 0x44 else 0x40])
      (update := fun l => l.tripped s v.trc.current) (fun _ => rfl)
      (fun i => (hvlanes i).trans (by rw [LaneState.tripped_congr huslu hurau, hu])) j
    rw [hvd] at hj
    exact hj

end Sys2Proof.Machine
end

section
/-! PROOFS. A SAMPLE that ends a controlled stop. -/

namespace Sys2Proof.Machine

/-! ### The end of a controlled stop (R7, R9, R75) -/

/-- Without a FILLING record, a record goes into the ring only (R143). -/
theorem State.writeRecord_of_no_filling {s : State} (h : s.trc.fillingSlot = none) (k : Pinion) (counter : Byte)
    (x : Snapshot) : s.writeRecord k counter x = s.writeEntryRecord k counter x := by
  simp [State.writeRecord, Recorder.appendSlot, h]

theorem State.abandonAtStop_all {s : State} (l : List Entry) (h : s.trc.fillingSlot = none) :
    l.foldl State.abandonAtStop s = l.foldl State.abandonAtTrip s := by
  induction l generalizing s with
  | nil => rfl
  | cons e l ih =>
    have he : s.abandonAtStop e = s.abandonAtTrip e := State.writeRecord_of_no_filling h ..
    rw [List.foldl_cons, List.foldl_cons, he]
    exact ih (by exact h)

theorem TableLaw.fillingSlot_eq_none {s : State} (h : TableLaw s) (hd : s.rc.drive ≠ .tripped) :
    s.trc.fillingSlot = none := by
  by_contra hne
  obtain ⟨i, hi⟩ := Option.ne_none_iff_exists'.mp hne
  exact hd (h.1 i (Recorder.fillingSlot_some hi).2).1

theorem packBits_stopped (b : Bool) :
    packBits [false, false, b, false, false, false, false] = if b then (0x04 : Byte) else 0 := by
  cases b <;> decide

/-- A recorder that has kept all but its rings and what follows them. -/
theorem Recorder.eq_with_rings {t u : Recorder} (h1 : t.slots = u.slots) (h2 : t.tripCount = u.tripCount)
    (h3 : t.current = u.current) (h4 : t.overflow = u.overflow) (h5 : t.unrecorded = u.unrecorded)
    (h6 : t.postTimer = u.postTimer) :
    t = { u with rings := t.rings, nextSeq := t.nextSeq, prevCounter := t.prevCounter } := by
  cases t
  cases u
  simp_all

/-- Everything the end of a stop does: the leaving of regulation, then the records and replies of abandoned computations,
with the limit chain fallen (R7, R9, R75). -/
theorem State.endStop_spec {s : State} (hn : (s.rau.entries.map (·.pinion)).Nodup) (hf : s.trc.fillingSlot = none) :
    s.endStop =
        { s with
          rc := { s.rc with drive := .ready, stopTimer := none }
          slu := s.slu.atRest
          crg := s.crg.rest
          rau := ⟨none, []⟩
          trc := { s.trc with
            rings := s.endStop.trc.rings, nextSeq := s.endStop.trc.nextSeq, prevCounter := s.endStop.trc.prevCounter }
          lanes := s.endStop.lanes } ∧
      (∀ e ∈ s.rau.entries, RingGains s s.endStop e.pinion
        { sampleRecord { s with slu := s.slu.atRest } e 0 false false with abandoned := true } e.counter) ∧
      (∀ k, (∀ e ∈ s.rau.entries, e.pinion ≠ k) → RingStays s s.endStop k) ∧
      ∀ j, s.endStop.lanes.get j = (s.lanes.get j).stopped s := by
  have hslu := s.enterRest_slu .ready rfl
  obtain ⟨trc, habandon, h1, h2, h3, h4, h5, h6, hgains, hstays⟩ :=
    abandonAll_spec s.rau.entries hn (s.enterRest .ready)
  obtain ⟨lanes, hreply, hlanes⟩ := replyAll_spec false s.rau.entries { s.enterRest .ready with trc := trc }
  have hend : s.endStop = ({ s.enterRest .ready with trc := trc, lanes := lanes } : State).raiseAll .state := by
    unfold State.endStop
    dsimp only
    rw [State.abandonAtStop_all _ (by rwa [State.enterRest_trc]), habandon, hreply]
  have htrc : trc =
      { s.trc with rings := trc.rings, nextSeq := trc.nextSeq, prevCounter := trc.prevCounter } := by
    rw [State.enterRest_trc] at h1 h2 h3 h4 h5 h6
    exact Recorder.eq_with_rings h1 h2 h3 h4 h5 h6
  rw [hend]
  refine ⟨?_, fun e he => ?_, fun k hk => ?_, fun j => ?_⟩
  · apply State.ext_fields
    case h2 => rfl
    case h11 => exact htrc
    all_goals simp [hslu, Rau.reset]
  · have hg := hgains e he
    unfold RingGains lostRecord at hg
    rw [State.enterRest_trc, hslu] at hg
    exact hg
  · have hs := hstays k hk
    unfold RingStays at hs
    rw [State.enterRest_trc] at hs
    exact hs
  · have hbit : (Notice.state.bit : Byte) = 0x80 := by decide
    have hfind := find_eq_getLast_filter (fun e => (s.lanes.get j).role == pinionRole e.pinion) s.rau.entries
      (filter_pinion_length _ hn _)
    have hzero : ∀ k f, ({ s.enterRest .ready with trc := trc } : State).sampleReply k 0 f = _ :=
      fun k f => State.sampleReply_atRest hslu k f
    rw [State.raiseAll_get, LaneState.raise_eq, hbit]
    simp only [hlanes j, hzero, packBits_stopped]
    simp only [State.enterRest_lanes s .ready rfl, State.enterRest_rc, LaneState.stopped, hfind, BitVec.or_assoc,
      BitVec.or_comm (0x80 : Byte)]
    cases (s.rau.entries.filter fun e => (s.lanes.get j).role == pinionRole e.pinion).getLast? <;> rfl

/-- What a stop does to a lane depends on the limits and the computations it finds. -/
theorem LaneState.stopped_congr {s u : State} (hslu : u.slu = s.slu) (hrau : u.rau = s.rau) (l : LaneState) :
    l.stopped u = l.stopped s := by
  unfold LaneState.stopped
  rw [hslu, hrau]

/-- A sample that ends the stop is answered outside regulation (R7, R77). -/
theorem State.finishSample_ends_stop {s : State} (lane : Lane) (k : Pinion) (e e' : Entry) (demand : Option Word16)
    (tripped : Bool) (hd : s.rc.drive = .stopping) (hz : s.atZeroSpeed = true)
    (hend : s.endStop.rc.drive.regulating = false)
    (he : e' = { e with demand := false, demandIgnored := decide (demand ≠ none ∧ k ≠ s.endStop.slu.lead) }) :
    s.finishSample lane k e demand tripped = s.endStop.answerAtRest lane e' tripped := by
  rw [State.finishSample, s.zeroSpeedTest_ends hd hz, State.answerAtRest_of_regulating_false lane k e demand tripped hend,
    he]

/-- What happens to a ring is read off the recorders before and after. -/
theorem RingGains.congr {s s' t t' : State} {k : Pinion} {x : Snapshot} {counter : Byte}
    (h : RingGains s t k x counter) (hs : RingStays s' s k) (ht : RingStays t t' k) : RingGains s' t' k x counter := by
  obtain ⟨h1, h2, h3⟩ := h
  obtain ⟨s1, s2, s3⟩ := hs
  obtain ⟨t1, t2, t3⟩ := ht
  exact ⟨(t1.trans h1).trans (by rw [s1]), (t2.trans h2).trans (by rw [s2]), t3.trans h3⟩

theorem RingStays.trans {s t u : State} {k : Pinion} (h : RingStays s t k) (hu : RingStays t u k) : RingStays s u k := by
  obtain ⟨h1, h2, h3⟩ := h
  obtain ⟨u1, u2, u3⟩ := hu
  exact ⟨u1.trans h1, u2.trans h2, u3.trans h3⟩

theorem RingStays.of_trc_eq {s t : State} (h : t.trc = s.trc) (k : Pinion) : RingStays s t k := by
  unfold RingStays
  rw [h]
  exact ⟨rfl, rfl, rfl⟩

/-- The end of a stop with the record of the sample that ends it, whose pinion has no computation in the RAU (R7, R77). -/
theorem State.endStop_record_spec {s : State} {e : Entry} (hn : (s.rau.entries.map (·.pinion)).Nodup)
    (hf : s.trc.fillingSlot = none) (hne : ∀ x ∈ s.rau.entries, x.pinion ≠ e.pinion) :
    ∃ t, t = s.endStop.writeRecord e.pinion e.counter (s.endStop.draft e) ∧
      t =
        { s with
          rc := { s.rc with drive := .ready, stopTimer := none }
          slu := s.slu.atRest
          crg := s.crg.rest
          rau := ⟨none, []⟩
          trc := { s.trc with rings := t.trc.rings, nextSeq := t.trc.nextSeq, prevCounter := t.trc.prevCounter }
          lanes := t.lanes } ∧
      (∀ x ∈ s.rau.entries, RingGains s t x.pinion
        { sampleRecord { s with slu := s.slu.atRest } x 0 false false with abandoned := true } x.counter) ∧
      RingGains s t e.pinion (sampleRecord { s with slu := s.slu.atRest } e 0 false false) e.counter ∧
      (∀ j, j ≠ e.pinion → (∀ x ∈ s.rau.entries, x.pinion ≠ j) → RingStays s t j) ∧
      ∀ j, t.lanes.get j = (s.lanes.get j).stopped s := by
  obtain ⟨hend, hgains, hstays, hlanes⟩ := State.endStop_spec hn hf
  generalize s.endStop = v at hend hgains hstays hlanes ⊢
  have hvnone : v.trc.fillingSlot = none := by rw [hend]; exact hf
  have hvslu : v.slu = s.slu.atRest := by rw [hend]
  have hown := hstays e.pinion hne
  rw [State.writeRecord_of_no_filling hvnone]
  obtain ⟨hgain, hstay, -⟩ := v.writeEntryRecord_spec e.pinion e.counter (v.draft e)
  have hother : ∀ j, j ≠ e.pinion → RingStays v (v.writeEntryRecord e.pinion e.counter (v.draft e)) j := fun j hj => by
    obtain rfl : j = e.pinion.other := (Pinion.eq_or_other e.pinion j).resolve_left hj
    exact hstay
  have hrecord : v.trc.complete e.pinion e.counter (v.draft e) false =
      sampleRecord { s with slu := s.slu.atRest } e 0 false false := by
    obtain ⟨-, hseq, hprev⟩ := hown
    simp only [Recorder.complete, State.draft, sampleRecord, hvslu, hseq, hprev]
  refine ⟨_, rfl, ?_, fun x hx => ?_, ?_, fun j hj hjx => (hstays j hjx).trans (hother j hj), hlanes⟩
  · apply State.ext_fields
    case h2 => rfl
    all_goals (rw [hend]; rfl)
  · exact (hgains x hx).congr (RingStays.of_trc_eq rfl _) (hother x.pinion (hne x hx))
  · rw [← hrecord]
    exact hgain.congr hown (RingStays.of_trc_eq rfl _)

/-- Settles O49: the zero-speed test enters READY, and the sample is answered there at rest. -/
theorem sampleEndsTheStop : Obligations.SampleEndsTheStop := by
  intro s lane k iMeas n counter bridge demand hlaw htable h hk hd hcalm hspeed
  obtain ⟨u, reports, hu, hw, -, hreports, hexec⟩ := exec_sample_eq (iMeas := iMeas) (n := n) (counter := counter)
    (bridge := bridge) (demand := demand) h hk
  obtain rfl := hcalm.reports_eq_nil hreports
  rw [State.reportAll_nil] at hexec
  have hurc : u.rc = heardBy s k iMeas n bridge := by rw [hu]
  have huslu : u.slu = s.slu := by rw [hu]; rfl
  have hurau : u.rau = s.rau := by rw [hu]; rfl
  have hutrc : u.trc = s.trc := by rw [hu]; rfl
  have hud : u.rc.drive = .stopping := by rw [hurc]; exact hd
  have hz : u.atZeroSpeed = true := (atZeroSpeed_iff hurc hw.watch_eq).mpr hspeed
  have htripped : (s.rc.drive != .tripped && u.rc.drive == .tripped) = false := by rw [hud]; simp
  obtain ⟨e, he⟩ : ∃ e : Entry,
      e = ⟨k, iMeas, n, counter, false, decide (demand ≠ none ∧ k ≠ s.slu.lead), .stopping⟩ := ⟨_, rfl⟩
  have hpinion : e.pinion = k := by rw [he]
  have hcounter : e.counter = counter := by rw [he]
  have hnodup : (u.rau.entries.map (·.pinion)).Nodup := by rw [hurau]; exact hlaw.entries_nodup
  have hnone : u.trc.fillingSlot = none := by rw [hutrc]; exact htable.fillingSlot_eq_none (by rw [hd]; decide)
  have hne : ∀ x ∈ u.rau.entries, x.pinion ≠ e.pinion := by rw [hurau, hpinion]; exact hlaw.entries_ne h hk
  have hend := (State.endStop_spec hnodup hnone).1
  have hlead : u.endStop.slu.lead = s.slu.lead := by rw [hend, huslu]; rfl
  obtain ⟨t, ht, hframe, hgains, hown, hstays, hlanes⟩ := State.endStop_record_spec hnodup hnone hne
  have htslu : t.slu = u.slu.atRest := by rw [hframe]
  have htdrive : t.rc.drive = .ready := by rw [hframe]
  rw [htripped, State.finishSample_ends_stop lane k _ e demand false hud hz (by rw [hend]; rfl) (by rw [he, hlead, hd]),
    State.answerAtRest_written, ← ht, State.sampleReply_atRest htslu, packBits_stopped] at hexec
  rw [hpinion, hcounter] at hown
  rw [hpinion] at hstays
  rw [hurau] at hgains hstays
  refine ⟨_, { s with slu := s.slu.atRest }, e, hexec, he, rfl, ?state, ?watched, fun x hx => ?abandoned, ?own,
    fun j hj hjx => (RingStays.of_trc_eq hutrc j).trans (hstays j hj hjx), fun j => ?lanes⟩
  case state =>
    apply State.ext_fields
    case h2 => rfl
    case h6 => rw [← Regulators.rest_eq, hframe, hu]; rfl
    all_goals rw [hframe, hu] <;> rfl
  case watched =>
    unfold Watched
    rw [State.answer_dwu, hframe]
    exact hw
  case abandoned =>
    have hx' := (hgains x hx).congr (RingStays.of_trc_eq hutrc _) (RingStays.of_trc_eq rfl _)
    simp only [sampleRecord, hutrc, huslu] at hx' ⊢
    exact hx'
  case own =>
    have hown' := hown.congr (RingStays.of_trc_eq hutrc k) (RingStays.of_trc_eq rfl k)
    simp only [sampleRecord, hutrc, huslu] at hown' ⊢
    exact hown'
  case lanes =>
    have hj := answer_lanes_of_update (s := s) (lane := lane) (kind := .sample) (status := .ok) (t := t)
      (bytes := requestFrame .sample (samplePayload iMeas n counter bridge demand))
      (reply := [0, 0, 0, 0, 0, 0, if e.demandIgnored then 0x04 else 0]) (update := fun l => l.stopped s) (fun _ => rfl)
      (fun i => (hlanes i).trans (by rw [LaneState.stopped_congr huslu hurau, hu])) j
    rwa [htdrive] at hj

end Sys2Proof.Machine
end

section
/-! PROOFS. The share settings. -/

namespace Sys2Proof.Machine

/-! ### SET SHARE (R24) -/

/-- A clamp with its bounds in order: the three places of a value relative to them. -/
theorem clampInt_spec {x lo hi : Int} (h : lo ≤ hi) :
    (x < lo → clampInt x lo hi = lo) ∧ (hi < x → clampInt x lo hi = hi) ∧
      (lo ≤ x → x ≤ hi → clampInt x lo hi = x) := by
  rw [clampInt_eq x lo hi h]
  omega

/-- The code of a pinion read from a lead byte (R24; Table 6): every byte but 0 is echoed as 1. -/
theorem pinionCode_pinionOf (b : Byte) : pinionCode (pinionOf b) = if b = 0 then 0 else 1 := by
  unfold pinionOf
  split <;> rfl

/-- Settles O30: the block writes the two share settings and answers; it has no check and raises no notice. -/
theorem setShareStoresLeadAndOffset : Obligations.SetShareStoresLeadAndOffset := by
  intro s lane lead offset h
  obtain ⟨below, above, within⟩ := clampInt_spec (x := offset.toInt) (lo := -3277) (hi := 3277) (by decide)
  refine ⟨_, offsetOf offset, below, above, within, exec_of_takes rfl h, rfl, ?_⟩
  rw [← pinionCode_pinionOf]
  exact answered_of_quiet rfl .ok _

end Sys2Proof.Machine
end

section
/-! PROOFS. The limit chain and the overload sums: what the shared operations keep of their laws. -/

namespace Sys2Proof.Machine

/-! ### The laws read off the model's functions -/

/-- The limit law with its targets computed (R38, R43, R48, R52). -/
theorem limitLaw_iff_targetOf (s : State) : LimitLaw s ↔ SettingsInRange s.slu ∧ s.slu.clamped ∧
    ∀ k, s.slu.target.get k = s.targetOf k ∧ s.slu.limit.get k ≤ s.slu.target.get k := by
  simp only [LimitLaw, LimitChain, targetIs_iff, ShareLimit.clamped]
  refine and_congr_right fun _ => ⟨fun h => ⟨fun k => (h k).2.2, fun k => ⟨(h k).1, (h k).2.1⟩⟩, fun h k => ?_⟩
  obtain ⟨hclamped, hchain⟩ := h
  exact ⟨(hchain k).1, (hchain k).2, hclamped k⟩

theorem LimitLaw.congr {s t : State} (h : LimitLaw s) (hslu : t.slu = s.slu) (ht : ∀ k, t.targetOf k = s.targetOf k) :
    LimitLaw t := by
  rw [limitLaw_iff_targetOf] at h ⊢
  simpa only [hslu, ht] using h

theorem ShareLimit.atRest_clamped (u : ShareLimit) : u.atRest.clamped := by
  intro k
  cases k <;> exact ⟨rfl, rfl⟩

/-- At rest the limit chain is in order: outside regulation M is 0, and so are the targets (R39, R41). -/
theorem limitLaw_of_atRest {t : State} {u : ShareLimit} (hslu : t.slu = u.atRest) (hset : SettingsInRange u)
    (hd : t.rc.drive.regulating = false) : LimitLaw t := by
  rw [limitLaw_iff_targetOf, hslu]
  refine ⟨hset, u.atRest_clamped, fun k => ?_⟩
  rw [State.targetOf_eq_zero t k hd]
  cases k <;> exact ⟨rfl, le_rfl⟩

/-- A recomputation of the targets brings the chain in order, whatever the ceilings were before it (R38, R42, R43). -/
theorem limitLaw_of_retarget {u : State} (hset : SettingsInRange u.slu) (hc : u.slu.clamped) : LimitLaw u.retarget := by
  obtain ⟨⟨heq, hchain⟩, -⟩ := u.retarget_retargeted hc
  refine ⟨?_, fun k => (hchain k).1⟩
  rw [heq]
  exact hset

theorem OverloadLaw.congr {s t : State} (h : OverloadLaw s) (hol : t.dwu.ol = s.dwu.ol)
    (hq : t.dwu.watch.q = s.dwu.watch.q) (hd : s.rc.drive = .tripped → t.rc.drive = .tripped) : OverloadLaw t := by
  intro k
  rw [hol, hq]
  exact ⟨(h k).1, fun he => hd ((h k).2 he)⟩

theorem ShareLimit.setLimit_clamped {u : ShareLimit} (h : u.clamped) (k : Pinion) (l : Nat) :
    (u.setLimit k l).clamped := by
  intro j
  by_cases hj : j = k
  · subst hj
    simp [ShareLimit.setLimit, ShareLimit.reclamp]
  · simpa [ShareLimit.setLimit, ShareLimit.reclamp, Pair.get_set_ne, hj] using h j

theorem ShareLimit.setRaw_clamped {u : ShareLimit} (h : u.clamped) (k : Pinion) (r : Int) :
    (u.setRaw k r).clamped := by
  intro j
  by_cases hj : j = k
  · subst hj
    simp [ShareLimit.setRaw, ShareLimit.reclamp]
  · simpa [ShareLimit.setRaw, ShareLimit.reclamp, Pair.get_set_ne, hj] using h j

/-- Outside RUN, INCH and STOPPING both raw splits are 0 (R9, R32). -/
def SplitsAtRest (s : State) : Prop := s.rc.drive.regulating = false → s.slu.raw = .both 0

theorem RegulatorLaw.splitsAtRest {s : State} (h : RegulatorLaw s) : SplitsAtRest s := fun hd =>
  let ⟨_, _, _, hrest⟩ := h
  let ⟨_, _, _, _, hraw⟩ := hrest hd
  hraw

/-! ### What an operation keeps -/

/-- From `s` to `t` the drive state and the blocks that the laws speak of stay as they were. -/
def LimitFrame (s t : State) : Prop :=
  t.rc.drive = s.rc.drive ∧ t.slu = s.slu ∧ t.vlu = s.vlu ∧ t.dwu = s.dwu

/-- From `s` to `t` the laws of the limit chain, of the overload sums and of the raw splits are each kept. -/
structure KeepsLimits (s t : State) : Prop where
  limit : LimitLaw s → LimitLaw t
  overload : OverloadLaw s → OverloadLaw t
  splits : SplitsAtRest s → SplitsAtRest t

namespace KeepsLimits

variable {s t u : State}

theorem refl (s : State) : KeepsLimits s s := ⟨id, id, id⟩

theorem trans (h : KeepsLimits s t) (h' : KeepsLimits t u) : KeepsLimits s u :=
  ⟨fun hs => h'.limit (h.limit hs), fun hs => h'.overload (h.overload hs), fun hs => h'.splits (h.splits hs)⟩

/-- The split and limit unit, the drive state and the ceilings as they were. -/
theorem of_targets (hd : t.rc.drive = s.rc.drive) (hslu : t.slu = s.slu) (ht : ∀ k, t.targetOf k = s.targetOf k)
    (ho : OverloadLaw s → OverloadLaw t) : KeepsLimits s t :=
  ⟨fun h => h.congr hslu ht, ho, fun h => by
    unfold SplitsAtRest
    rw [hd, hslu]
    exact h⟩

/-- The same where no channel changed. -/
theorem of_overload (hd : t.rc.drive = s.rc.drive) (hslu : t.slu = s.slu) (hvlu : t.vlu = s.vlu)
    (ho : OverloadLaw s → OverloadLaw t) : KeepsLimits s t :=
  of_targets hd hslu
    (fun k => State.targetOf_congr k (by rw [hslu]) (by rw [hslu]) (by rw [hslu]) (by rw [hslu]) hd fun c => by
      rw [hvlu]) ho

/-- An operation that touches none of the blocks the laws speak of. -/
theorem of_frame (h : LimitFrame s t) : KeepsLimits s t :=
  let ⟨hd, hslu, hvlu, hdwu⟩ := h
  of_overload hd hslu hvlu fun h => h.congr (by rw [hdwu]) (by rw [hdwu]) hd.trans

/-- A state outside regulation entered at rest (R9, R39, R41). -/
theorem of_atRest (hd : t.rc.drive.regulating = false) (hslu : t.slu = s.slu.atRest)
    (ho : OverloadLaw s → OverloadLaw t) : KeepsLimits s t :=
  ⟨fun h => limitLaw_of_atRest hslu h.1 hd, ho, fun _ _ => by rw [hslu]; rfl⟩

/-- TRIPPED, entered or kept (R15, R17). There a sum may stand at Q (R83). -/
theorem of_tripped (hd : t.rc.drive = .tripped)
    (hslu : t.slu = if s.rc.drive = .tripped then s.slu else s.slu.atRest)
    (hol : OverloadLaw s → ∀ k, t.dwu.ol.get k ≤ t.dwu.watch.q) : KeepsLimits s t := by
  have hload : OverloadLaw s → OverloadLaw t := fun h k => ⟨hol h k, fun _ => hd⟩
  by_cases hs : s.rc.drive = .tripped
  · rw [if_pos hs] at hslu
    refine of_targets (hd.trans hs.symm) hslu (fun k => ?_) hload
    rw [State.targetOf_eq_zero t k (by rw [hd]; rfl), State.targetOf_eq_zero s k (by rw [hs]; rfl)]
  · rw [if_neg hs] at hslu
    exact of_atRest (by rw [hd]; rfl) hslu hload

/-- A recomputation of the targets, after a change `u` of ceilings, settings or drive state that neither leaves TRIPPED
nor leaves regulation (R38, R42). -/
theorem of_retarget (hset : SettingsInRange s.slu → SettingsInRange u.slu) (hc : s.slu.clamped → u.slu.clamped)
    (hraw : u.slu.raw = s.slu.raw) (hol : u.dwu.ol = s.dwu.ol) (hq : u.dwu.watch.q = s.dwu.watch.q)
    (htrip : s.rc.drive = .tripped → u.rc.drive = .tripped)
    (hreg : u.rc.drive.regulating = false → s.rc.drive.regulating = false) : KeepsLimits s u.retarget :=
  ⟨fun h => limitLaw_of_retarget (hset h.1) (hc h.clamped),
    fun h => h.congr (by rw [State.retarget_dwu, hol]) (by rw [State.retarget_dwu, hq])
      (by rw [State.retarget_rc]; exact htrip),
    fun h hd => by
      rw [State.retarget_rc] at hd
      simp only [State.retarget_slu, ShareLimit.retargeted_raw]
      exact hraw.trans (h (hreg hd))⟩

/-- A recomputation after a change of channels only (R128). -/
theorem of_retarget_channels (hd : u.rc.drive = s.rc.drive) (hslu : u.slu = s.slu) (hdwu : u.dwu = s.dwu) :
    KeepsLimits s u.retarget :=
  of_retarget (by rw [hslu]; exact id) (by rw [hslu]; exact id) (by rw [hslu]) (by rw [hdwu]) (by rw [hdwu])
    (by rw [hd]; exact id) (by rw [hd]; exact id)

/-- Every reset (R22, R55, R94). -/
theorem of_reset (hrc : t.rc = .reset) (hslu : t.slu = .reset) (hdwu : t.dwu = .reset) : KeepsLimits s t := by
  have hd : t.rc.drive.regulating = false := by rw [hrc]; rfl
  refine ⟨fun _ => limitLaw_of_atRest (u := .reset) (by rw [hslu]; rfl) (by unfold SettingsInRange; decide) hd,
    fun _ k => ?_, fun _ _ => ?_⟩
  · rw [hdwu]
    cases k <;> exact ⟨by decide, fun h => absurd h (by decide)⟩
  · rw [hslu]
    rfl

theorem foldl {α : Type} {f : State → α → State} (hf : ∀ s x, KeepsLimits s (f s x)) (l : List α) (s : State) :
    KeepsLimits s (l.foldl f s) := by
  induction l generalizing s with
  | nil => exact refl s
  | cons x l ih => exact (hf s x).trans (ih _)

end KeepsLimits

section
variable (s : State)

/-! ### Reports and the leaving of regulation (R9, R14, R15, R17) -/

theorem State.reportTrip_slu (cause : Cause) (value limit : Nat) (trigger : Option Entry) :
    (s.reportTrip cause value limit trigger).slu = if s.rc.drive = .tripped then s.slu else s.slu.atRest := by
  by_cases h : s.rc.drive = .tripped
  · rw [State.reportTrip_of_tripped h, State.offerLater_slu, if_pos h]
  · rw [State.reportTrip_of_ne_tripped h, (s.enterTrip_rc_slu cause value limit trigger).2, if_neg h]

/-- A report in a state `u` that differs from `s` in channels, in run control but for the drive state, or in overload
sums within Q. -/
theorem State.reportTrip_keepsLimits {s u : State} {cause : Cause} {value limit : Nat} {trigger : Option Entry}
    (hd : u.rc.drive = s.rc.drive) (hslu : u.slu = s.slu)
    (hol : OverloadLaw s → ∀ k, u.dwu.ol.get k ≤ u.dwu.watch.q) :
    KeepsLimits s (u.reportTrip cause value limit trigger) :=
  .of_tripped (u.reportTrip_drive ..) (by rw [State.reportTrip_slu, hd, hslu]) (by rw [State.reportTrip_dwu]; exact hol)

/-- The same with the drive watch unit untouched. -/
theorem State.reportTrip_keepsLimits_of_dwu {s u : State} {cause : Cause} {value limit : Nat} {trigger : Option Entry}
    (hd : u.rc.drive = s.rc.drive) (hslu : u.slu = s.slu) (hdwu : u.dwu = s.dwu) :
    KeepsLimits s (u.reportTrip cause value limit trigger) :=
  State.reportTrip_keepsLimits hd hslu fun h k => by rw [hdwu]; exact (h k).1

/-- HALT, READY or TRIPPED entered at rest; TRIPPED is left only with both sums below Q (R20). -/
theorem State.enterRest_keepsLimits (d : DriveState) (hd : d.regulating = false)
    (hq : s.rc.drive = .tripped → ∀ k, s.dwu.ol.get k < s.dwu.watch.q) : KeepsLimits s (s.enterRest d) := by
  refine .of_atRest (by rw [State.enterRest_rc]; exact hd) (s.enterRest_slu d hd) fun h k => ?_
  rw [State.enterRest_dwu]
  refine ⟨(h k).1, fun he => absurd he (hq ((h k).2 he) k).ne⟩

theorem State.endStop_keepsLimits (h : s.rc.drive ≠ .tripped) : KeepsLimits s s.endStop := by
  have hrest := s.enterRest_keepsLimits .ready rfl fun ht => absurd ht h
  have hrecords := KeepsLimits.foldl (f := State.abandonAtStop) (fun _ _ => .of_frame (by simp [LimitFrame]))
    s.rau.entries (s.enterRest .ready)
  have hreplies := KeepsLimits.foldl (f := State.replyAbandoned false) (fun _ _ => .of_frame ⟨rfl, rfl, rfl, rfl⟩)
    s.rau.entries (s.rau.entries.foldl State.abandonAtStop (s.enterRest .ready))
  unfold State.endStop
  dsimp only
  exact ((hrest.trans hrecords).trans hreplies).trans (.of_frame (by simp [LimitFrame]))

/-- A move of the drive state that neither leaves TRIPPED nor leaves regulation (R1, R39). -/
theorem State.moveTo_keepsLimits (d : DriveState) (htrip : s.rc.drive ≠ .tripped)
    (hreg : d.regulating = false → s.rc.drive.regulating = false) : KeepsLimits s (s.moveTo d) := by
  have hmove := KeepsLimits.of_retarget (s := s) (u := s.updRc fun r => { r with drive := d }) id id rfl rfl rfl
    (fun h => absurd h htrip) hreg
  unfold State.moveTo
  exact hmove.trans (.of_frame (by simp [LimitFrame]))

/-! ### Channel state changes (R127 to R129) -/

theorem State.noteMove_keepsLimits (c : Channel) (before : ChannelState) : KeepsLimits s (s.noteMove c before) := by
  unfold State.noteMove
  split
  · exact .refl s
  · exact .of_retarget_channels (by rfl) (by rfl) (by rfl)

/-- A channel derates a pinion by its configuration and its state (R40). -/
theorem ChannelEntry.derates_congr {c d : ChannelEntry} (hg : d.config = c.config) (hs : d.state = c.state)
    (k : Pinion) : d.derates k = c.derates k := by
  simp only [ChannelEntry.derates, hg, hs]

theorem State.targetOf_updVlu (f : Vibration → Vibration) (k : Pinion)
    (h : ∀ c, ((f s.vlu).channels.get c).derates k = (s.vlu.channels.get c).derates k) :
    (s.updVlu f).targetOf k = s.targetOf k :=
  State.targetOf_congr k rfl rfl rfl rfl rfl h

/-- A change of channels that leaves every configuration and state (R120 to R122). -/
theorem State.updVlu_keepsLimits (f : Vibration → Vibration)
    (h : ∀ c, ((f s.vlu).channels.get c).config = (s.vlu.channels.get c).config ∧
      ((f s.vlu).channels.get c).state = (s.vlu.channels.get c).state) : KeepsLimits s (s.updVlu f) :=
  .of_targets rfl rfl (fun k => s.targetOf_updVlu f k fun c => ChannelEntry.derates_congr (h c).1 (h c).2 k) id

theorem Vibration.updChannel_get (v : Vibration) (c j : Channel) (f : ChannelEntry → ChannelEntry) :
    (v.updChannel c f).channels.get j = if j = c then f (v.channels.get c) else v.channels.get j :=
  Eight.get_set ..

/-- A changed channel entry with its configuration as it was: the re-evaluation follows where its state moved (R128). -/
theorem State.noteMove_updChannel_keepsLimits (c : Channel) (f : ChannelEntry → ChannelEntry)
    (hg : (f (s.vlu.channels.get c)).config = (s.vlu.channels.get c).config) :
    KeepsLimits s ((s.updVlu fun v => v.updChannel c f).noteMove c (s.vlu.channels.get c).state) := by
  unfold State.noteMove
  split
  · rename_i hstate
    refine s.updVlu_keepsLimits _ fun j => ?_
    rw [State.updVlu_vlu, Vibration.updChannel_get, if_pos rfl] at hstate
    rw [Vibration.updChannel_get]
    split
    · rename_i hj
      subst hj
      exact ⟨hg, hstate⟩
    · exact ⟨rfl, rfl⟩
  · exact .of_retarget_channels (by rfl) (by rfl) (by rfl)

theorem Vibration.completeLevel_config (v : Vibration) (c : ChannelEntry) (l : LevelComputation) (time : Word32) :
    (v.completeLevel c l time).config = c.config := by
  unfold Vibration.completeLevel ChannelEntry.suspectWindow
  dsimp only
  split
  · split <;> rfl
  · rfl

theorem State.levelCompletes_keepsLimits (c : Channel) (l : LevelComputation) :
    KeepsLimits s (s.levelCompletes c l) := by
  unfold State.levelCompletes
  dsimp only
  split
  · exact KeepsLimits.trans (State.reportTrip_keepsLimits_of_dwu (by rfl) (by rfl) (by rfl))
      (State.noteMove_keepsLimits ..)
  · exact s.noteMove_updChannel_keepsLimits c _ (s.vlu.completeLevel_config ..)

theorem State.nodeLost_keepsLimits (c : Channel) : KeepsLimits s (s.nodeLost c) := by
  unfold State.nodeLost
  dsimp only
  split
  · exact KeepsLimits.trans (State.reportTrip_keepsLimits_of_dwu (by rfl) (by rfl) (by rfl))
      (State.noteMove_keepsLimits ..)
  · exact s.noteMove_updChannel_keepsLimits c ChannelEntry.forget rfl

theorem ChannelEntry.endWindow_kept (c : ChannelEntry) (code : Nat) :
    (c.endWindow code).config = c.config ∧ (c.endWindow code).state = c.state := by
  unfold ChannelEntry.endWindow
  split <;> exact ⟨rfl, rfl⟩

theorem State.handOver_keepsLimits (c : Channel) (x : Option Int) : KeepsLimits s (s.handOver c x) := by
  unfold State.handOver
  split
  · refine s.updVlu_keepsLimits _ fun j => ?_
    rw [Vibration.updChannel_get]
    split
    · rename_i hj
      subst hj
      cases x <;> exact ChannelEntry.endWindow_kept ..
    · exact ⟨rfl, rfl⟩
  · exact .refl s

/-! ### The chain's events (R97, R102 to R104, R110, R111) -/

theorem State.closePolled_keepsLimits (c : Fin 8) (words : List ChainWord) : KeepsLimits s (s.closePolled c words) := by
  have hnode : ∀ e, KeepsLimits s (s.updScc fun n => n.setNode c e) := fun _ => .of_frame (by simp [LimitFrame])
  unfold State.closePolled
  dsimp only
  split
  · split
    · exact (hnode _).trans (State.nodeLost_keepsLimits ..)
    · exact (hnode _).trans (State.handOver_keepsLimits ..)
  · exact .refl s

theorem State.closeSearch_keepsLimits (c : Fin 8) (words : List ChainWord) : KeepsLimits s (s.closeSearch c words) := by
  have hlock : ∀ d w, KeepsLimits s (s.lockPosition d c w) := fun d w => by
    unfold State.lockPosition
    dsimp only
    split <;> exact .of_frame ⟨rfl, rfl, rfl, rfl⟩
  have hmiss : ∀ d rounds, KeepsLimits s (s.missSearch d c rounds) := fun d rounds => by
    unfold State.missSearch
    split <;> exact .of_frame ⟨rfl, rfl, rfl, rfl⟩
  unfold State.closeSearch
  split
  · exact .refl s
  · split
    · exact .refl s
    · split
      · split
        · exact hlock ..
        · exact hmiss ..
      · exact .refl s

theorem State.closeWindow_keepsLimits (c : Fin 8) (words : List ChainWord) : KeepsLimits s (s.closeWindow c words) := by
  unfold State.closeWindow
  split
  · exact .refl s
  · rename_i r _
    have hround : KeepsLimits s (s.updScc fun n => { n with round := r.close c }) := .of_frame (by simp [LimitFrame])
    dsimp only
    split
    · exact hround.trans (State.closePolled_keepsLimits ..)
    · split
      · exact hround.trans (State.closeSearch_keepsLimits ..)
      · exact .refl s

/-! ### The ramp tick (R45, R84) -/

/-- A limit raised to no more than its target (R45). -/
theorem State.setLimit_keepsLimits (k : Pinion) (l : Nat) (hl : l ≤ s.slu.target.get k) :
    KeepsLimits s (s.updSlu fun u => u.setLimit k l) := by
  refine ⟨fun h => ?_, fun h => h.congr rfl rfl id, id⟩
  rw [limitLaw_iff_targetOf] at h ⊢
  obtain ⟨hset, hclamped, hchain⟩ := h
  refine ⟨hset, ShareLimit.setLimit_clamped hclamped k l, fun j => ⟨(hchain j).1, ?_⟩⟩
  show (s.slu.limit.set k l).get j ≤ s.slu.target.get j
  rw [Pair.get_set]
  split
  · rename_i hj
    rwa [hj]
  · exact (hchain j).2

theorem State.rampPinion_keepsLimits (k : Pinion) : KeepsLimits s (s.rampPinion k) := by
  have hstep := s.setLimit_keepsLimits k (min (s.slu.limit.get k + s.slu.rampStep) (s.slu.target.get k))
    (Nat.min_le_right ..)
  unfold State.rampPinion
  dsimp only
  split
  · split <;> split
    · exact .of_frame (by simp [LimitFrame])
    · exact hstep.trans (.of_frame (by simp [LimitFrame]))
    · exact .refl s
    · exact hstep
  · exact .refl s

/-- A decayed sum that still stands at Q has not decayed (R84). -/
theorem State.decay_keepsLimits : KeepsLimits s (s.updDwu DriveWatch.decayStep) := by
  refine .of_overload rfl rfl rfl fun h k => ?_
  obtain ⟨hle, htrip⟩ := h k
  simp only [State.updDwu_dwu, DriveWatch.decayStep, Pair.get_map]
  exact ⟨by omega, fun he => htrip (by omega)⟩

theorem State.rampTick_keepsLimits : KeepsLimits s s.rampTick := by
  unfold State.rampTick
  split
  · exact ((State.rampPinion_keepsLimits ..).trans (State.rampPinion_keepsLimits ..)).trans (State.decay_keepsLimits _)
  · exact .refl s

/-! ### An arriving SAMPLE (R10, R13, R26, R80 to R89) -/

theorem State.checkFault_keepsLimits (e : Entry) (fault : Bool) : KeepsLimits s (s.checkFault e fault) := by
  unfold State.checkFault
  split
  · exact State.reportTrip_keepsLimits_of_dwu (by rfl) (by rfl) (by rfl)
  · exact .refl s

theorem State.checkReady_keepsLimits (e : Entry) (ready : Bool) : KeepsLimits s (s.checkReady e ready) := by
  unfold State.checkReady
  split
  · exact State.reportTrip_keepsLimits_of_dwu (by rfl) (by rfl) (by rfl)
  · exact .refl s

theorem State.checkOvercurrent_keepsLimits (e : Entry) : KeepsLimits s (s.checkOvercurrent e) := by
  unfold State.checkOvercurrent
  split
  · exact State.reportTrip_keepsLimits_of_dwu (by rfl) (by rfl) (by rfl)
  · exact .refl s

/-- The sum is saturated at Q, and at Q it is reported (R82, R83). -/
theorem State.checkOverload_keepsLimits (e : Entry) : KeepsLimits s (s.checkOverload e) := by
  have hsum : s.overloadSum e ≤ s.dwu.watch.q := Nat.min_le_right ..
  unfold State.checkOverload
  dsimp only
  split
  · split
    · refine State.reportTrip_keepsLimits (by rfl) (by rfl) fun h k => ?_
      show (s.dwu.ol.set e.pinion (s.overloadSum e)).get k ≤ s.dwu.watch.q
      rw [Pair.get_set]
      split
      · exact hsum
      · exact (h k).1
    · rename_i hne
      refine .of_overload rfl rfl rfl fun h k => ?_
      show (s.dwu.ol.set e.pinion (s.overloadSum e)).get k ≤ s.dwu.watch.q ∧
        ((s.dwu.ol.set e.pinion (s.overloadSum e)).get k = s.dwu.watch.q → s.rc.drive = .tripped)
      rw [Pair.get_set]
      split
      · exact ⟨hsum, fun he => absurd he hne⟩
      · exact h k
  · exact .refl s

theorem State.checkImbalance_keepsLimits (e : Entry) : KeepsLimits s (s.checkImbalance e) := by
  unfold State.checkImbalance
  dsimp only
  split
  · split
    · refine State.reportTrip_keepsLimits (by rfl) (by rfl) fun h k => ?_
      exact (h k).1
    · exact .of_overload rfl rfl rfl fun h => h.congr rfl rfl id
  · exact .refl s

theorem State.checkSample_keepsLimits (e : Entry) (ready fault : Bool) : KeepsLimits s (s.checkSample e ready fault) :=
  ((((State.checkFault_keepsLimits ..).trans (State.checkReady_keepsLimits ..)).trans
    (State.checkOvercurrent_keepsLimits ..)).trans (State.checkOverload_keepsLimits ..)).trans
    (State.checkImbalance_keepsLimits ..)

theorem State.zeroSpeedTest_keepsLimits : KeepsLimits s s.zeroSpeedTest := by
  unfold State.zeroSpeedTest
  split
  · rename_i h
    exact s.endStop_keepsLimits (by rw [h.1]; decide)
  · exact .refl s

/-- A split is made in regulation only (R28, R31). -/
theorem State.split_keepsLimits (t : Int) (hreg : s.rc.drive.regulating = true) : KeepsLimits s (s.split t) := by
  refine ⟨fun h => ?_, fun h => h.congr rfl rfl id, fun _ hd => ?_⟩
  · rw [limitLaw_iff_targetOf] at h ⊢
    obtain ⟨hset, hclamped, hchain⟩ := h
    exact ⟨hset, ShareLimit.setRaw_clamped (ShareLimit.setRaw_clamped hclamped _ _) _ _, hchain⟩
  · rw [State.split_rc, hreg] at hd
    cases hd

theorem State.takeDemand_keepsLimits (k : Pinion) (demand : Option Word16) : KeepsLimits s (s.takeDemand k demand) := by
  unfold State.takeDemand
  split
  · split
    · rename_i huse
      exact s.split_keepsLimits _ (Bool.and_eq_true_iff.mp huse).2
    · exact .refl s
  · exact .refl s

theorem State.regulate_keepsLimits (lane : Lane) (e : Entry) (tripped : Bool) :
    KeepsLimits s (s.regulate lane e tripped) := by
  unfold State.regulate State.answerAtRest
  dsimp only
  split
  · exact .of_frame (by simp [LimitFrame])
  · split <;> exact .of_frame (by simp [LimitFrame])

theorem State.takeSample_keepsLimits (lane : Lane) (iMeas n : Word16) (counter bridge : Byte) (demand : Option Word16) :
    KeepsLimits s (s.takeSample lane iMeas n counter bridge demand) := by
  unfold State.takeSample
  split
  · rename_i k _
    have harrive : KeepsLimits s (s.arrive k ⟨iMeas, n, bridge.getLsbD 0, bridge.getLsbD 1⟩) :=
      .of_frame ⟨rfl, rfl, rfl, rfl⟩
    exact (((harrive.trans (State.checkSample_keepsLimits ..)).trans (State.zeroSpeedTest_keepsLimits _)).trans
      (State.takeDemand_keepsLimits ..)).trans (State.regulate_keepsLimits ..)
  · exact .refl s

end

end Sys2Proof.Machine
end

section
/-! PROOFS. The limit chain and the overload sums: every command keeps their laws, and outside regulation the chain is
at 0. -/

namespace Sys2Proof.Machine

section
variable (s : State)

/-! ### Requests -/

/-- A request keeps what its block keeps: every other way it can go touches lanes and the capture only (R161 to R163,
R165). -/
theorem State.request_keepsLimits (lane : Lane) (kind : RequestKind) (payload : List Byte) {body : State → State}
    (h : ∀ u, KeepsLimits u (body u)) : KeepsLimits s (s.request lane kind payload body) := by
  have hclosed : KeepsLimits s ((s.openSelection lane).closeSelection lane (requestFrame kind payload)) :=
    .of_frame (by simp [LimitFrame])
  unfold State.request State.judge
  dsimp only
  split
  · split
    · exact hclosed.trans (.of_frame (by simp [LimitFrame]))
    · split
      · exact hclosed.trans (.of_frame (by simp [LimitFrame]))
      · exact hclosed.trans (h _)
  · exact hclosed

/-- A block that only answers. -/
theorem State.request_answer_keepsLimits (lane : Lane) (kind : RequestKind) (payload : List Byte) (status : Status)
    (reply : State → List Byte) :
    KeepsLimits s (s.request lane kind payload fun u => u.answer lane kind status (reply u)) :=
  s.request_keepsLimits lane kind payload fun _ => .of_frame (by simp [LimitFrame])

/-- An effect followed by an answer. -/
theorem KeepsLimits.answer {s t : State} (h : KeepsLimits s t) (lane : Lane) (kind : RequestKind) (status : Status)
    (reply : List Byte) : KeepsLimits s (t.answer lane kind status reply) :=
  h.trans (.of_frame (by simp [LimitFrame]))

/-! ### The requests of run control (R3 to R6, R20) -/

theorem State.arm_keepsLimits (lane : Lane) : KeepsLimits s (s.arm lane) := by
  unfold State.arm
  split
  · exact .of_frame (by simp [LimitFrame])
  · rename_i hd
    have hd : s.rc.drive = .halt := not_not.mp hd
    split
    · exact .of_frame (by simp [LimitFrame])
    · split
      · exact .of_frame (by simp [LimitFrame])
      · exact (s.moveTo_keepsLimits .ready (by rw [hd]; decide) fun _ => by rw [hd]; rfl).answer ..

theorem State.disarm_keepsLimits (lane : Lane) : KeepsLimits s (s.disarm lane) := by
  unfold State.disarm
  split
  · exact .of_frame (by simp [LimitFrame])
  · rename_i hd
    have hrest := s.enterRest_keepsLimits .halt rfl fun h => by rw [not_not.mp hd] at h; cases h
    exact (hrest.trans (.of_frame (by simp [LimitFrame]))).answer ..

theorem State.ready_of_startRefusal_none {s : State} (h : s.startRefusal = none) : s.rc.drive = .ready := by
  by_contra hd
  rw [State.startRefusal_badState hd] at h
  cases h

theorem State.start_keepsLimits (lane : Lane) : KeepsLimits s (s.start lane) := by
  unfold State.start
  split
  · exact .of_frame (by simp [LimitFrame])
  · rename_i h
    have hd := State.ready_of_startRefusal_none h
    have hclear : KeepsLimits s (s.updDwu DriveWatch.clearImbalance) :=
      .of_overload rfl rfl rfl fun h => h.congr rfl rfl id
    refine (hclear.trans (State.moveTo_keepsLimits _ .run ?_ fun h => by cases h)).answer ..
    rw [State.updDwu_rc, hd]
    decide

theorem State.inching_keepsLimits (lane : Lane) : KeepsLimits s (s.inching lane) := by
  unfold State.inching
  split
  · exact .of_frame (by simp [LimitFrame])
  · rename_i h
    have hd := State.ready_of_startRefusal_none h
    exact (s.moveTo_keepsLimits .inch (by rw [hd]; decide) fun h => by cases h).answer ..

theorem State.stop_keepsLimits (lane : Lane) : KeepsLimits s (s.stop lane) := by
  have hmove : ∀ u : State, KeepsLimits s u → u.rc.drive = s.rc.drive → s.rc.drive ≠ .tripped →
      KeepsLimits s ((u.moveTo .stopping).answer lane .stop .ok []) := fun u hu hd hn =>
    (hu.trans (u.moveTo_keepsLimits .stopping (by rwa [hd]) fun h => by cases h)).answer ..
  have htimer : KeepsLimits s s.startStopTimer := .of_frame ⟨rfl, rfl, rfl, rfl⟩
  have hclear : KeepsLimits s (s.startStopTimer.updDwu DriveWatch.clearImbalance) :=
    htimer.trans (.of_overload rfl rfl rfl fun h => h.congr rfl rfl id)
  unfold State.stop
  split
  · rename_i hd
    exact hmove _ htimer rfl (by rw [hd]; decide)
  · rename_i hd
    exact hmove _ hclear rfl (by rw [hd]; decide)
  all_goals exact .of_frame (by simp [LimitFrame])

/-- No overload sum stands at Q where CLEAR TRIP finds no active cause (R20, R86). -/
theorem State.load_lt_of_clearRefusal_none {s : State} (h : s.clearRefusal = none) (k : Pinion) :
    s.dwu.ol.get k < s.dwu.watch.q := by
  have hcause : ¬CauseActive s := by
    rw [causeActive_iff]
    unfold State.clearRefusal at h
    split_ifs at h with _ _ _ hc
    exact hc
  by_contra hle
  exact hcause (.inr (.inr (.inl ⟨k, by omega⟩)))

theorem State.clearTrip_keepsLimits (lane : Lane) : KeepsLimits s (s.clearTrip lane) := by
  unfold State.clearTrip
  split
  · exact .of_frame (by simp [LimitFrame])
  · rename_i h
    have hacks : KeepsLimits s (s.updRc RunControl.clearAcks) := .of_frame ⟨rfl, rfl, rfl, rfl⟩
    have hbelow := fun k => State.load_lt_of_clearRefusal_none h k
    have hrest := (s.updRc RunControl.clearAcks).enterRest_keepsLimits .halt rfl fun _ => hbelow
    exact ((hacks.trans hrest).trans (.of_frame (by simp [LimitFrame]))).answer ..

theorem State.ackTrip_keepsLimits (lane : Lane) : KeepsLimits s (s.ackTrip lane) := by
  unfold State.ackTrip
  split
  · split
    · exact .of_frame ⟨rfl, rfl, rfl, rfl⟩
    · exact .refl s
  · exact .of_frame (by simp [LimitFrame])

/-! ### The plant's settings (R24, R52, R85, R117, R119, R130) -/

theorem ceilingOf_le (w : Word16) : ceilingOf w ≤ 32767 := Nat.min_le_right ..

theorem State.setLimits_keepsLimits (lane : Lane) (plant ceilA ceilB derate inchCeiling rampStep : Word16) :
    KeepsLimits s (s.setLimits lane plant ceilA ceilB derate inchCeiling rampStep) := by
  have hset : SettingsInRange s.slu →
      SettingsInRange (s.slu.withSettings plant ceilA ceilB derate inchCeiling rampStep) :=
    fun ⟨_, _, _, _, _, _, hoffset⟩ => ⟨ceilingOf_le _, ceilingOf_le _, ceilingOf_le _, ceilingOf_le _, ceilingOf_le _,
      Nat.min_le_right .., hoffset⟩
  have hwritten := KeepsLimits.of_retarget (s := s)
    (u := s.updSlu fun u => u.withSettings plant ceilA ceilB derate inchCeiling rampStep) hset id rfl rfl rfl id id
  unfold State.setLimits
  split
  · exact .of_frame (by simp [LimitFrame])
  · exact hwritten.answer ..

/-- The offset is clamped to its bounds, and no limit depends on it (R23, R24). -/
theorem State.setShare_keepsLimits (lane : Lane) (lead : Byte) (offset : Word16) :
    KeepsLimits s (s.setShare lane lead offset) := by
  have hoffset : -3277 ≤ offsetOf offset ∧ offsetOf offset ≤ 3277 := by
    rw [offsetOf, clampInt_eq _ _ _ (by decide)]
    unfold Config.offsetBound
    omega
  have hshare : KeepsLimits s (s.updSlu fun u => u.withShare lead offset) := by
    refine ⟨fun h => ?_, fun h => h.congr rfl rfl id, id⟩
    rw [limitLaw_iff_targetOf] at h ⊢
    obtain ⟨⟨h1, h2, h3, h4, h5, h6, -⟩, hchain⟩ := h
    exact ⟨⟨h1, h2, h3, h4, h5, h6, hoffset⟩, hchain⟩
  exact hshare.answer ..

/-- The comparison of a sum with Q leaves the smaller of the two (R85). -/
theorem State.compareOverload_dwu (k : Pinion) : (s.compareOverload k).dwu =
    { s.dwu with ol := s.dwu.ol.set k (min (s.dwu.ol.get k) s.dwu.watch.q) } := by
  unfold State.compareOverload
  split
  · rename_i h
    rw [State.reportTrip_dwu, Nat.min_eq_right h]
    rfl
  · rename_i h
    rw [Nat.min_eq_left (by omega), Pair.set_get]

theorem State.compareOverload_below {k : Pinion} (h : s.dwu.ol.get k < s.dwu.watch.q) : s.compareOverload k = s :=
  if_neg (by omega)

/-- A sum at or above Q trips the drive (R85). -/
theorem State.compareOverload_drive (k : Pinion) : (s.compareOverload k).rc.drive =
    if s.dwu.watch.q ≤ s.dwu.ol.get k then .tripped else s.rc.drive := by
  unfold State.compareOverload
  split
  · exact State.reportTrip_drive ..
  · rfl

theorem State.compareOverload_slu (k : Pinion) : (s.compareOverload k).slu =
    if s.dwu.watch.q ≤ s.dwu.ol.get k ∧ s.rc.drive ≠ .tripped then s.slu.atRest else s.slu := by
  unfold State.compareOverload
  by_cases hq : s.dwu.watch.q ≤ s.dwu.ol.get k <;> by_cases hd : s.rc.drive = .tripped <;>
    simp [hq, hd, State.reportTrip_slu]

/-- Under new watch settings both sums end at or below the new Q, and one that reaches it has tripped the drive,
whatever the sums were before (R85). -/
theorem State.setWatch_keepsLimits (lane : Lane) (w : WatchSettings) : KeepsLimits s (s.setWatch lane w) := by
  unfold State.setWatch
  refine KeepsLimits.answer ?_ ..
  by_cases hlow : ∀ k, s.dwu.ol.get k < w.q
  case pos =>
    have hsum : ∀ k, (s.updDwu fun d => { d with watch := w }).compareOverload k =
        s.updDwu fun d => { d with watch := w } := fun k => State.compareOverload_below _ (hlow k)
    rw [hsum .a, hsum .b]
    exact .of_overload rfl rfl rfl fun _ k => ⟨(hlow k).le, fun he => absurd he (hlow k).ne⟩
  case neg =>
    have hreached : w.q ≤ s.dwu.ol.a ∨ w.q ≤ s.dwu.ol.b := by
      rw [forall_pinion, Pair.get_a, Pair.get_b] at hlow
      omega
    refine .of_tripped ?_ ?_ fun _ => ?_
    · rcases hreached with h | h <;> simp [State.compareOverload_drive, State.compareOverload_dwu, h]
    · simp only [State.compareOverload_slu, State.compareOverload_drive, State.compareOverload_dwu]
      by_cases hd : s.rc.drive = .tripped
      · simp [hd]
      · by_cases ha : w.q ≤ s.dwu.ol.a
        · simp [hd, ha]
        · simp [hd, ha, hreached.resolve_left ha]
    · rw [forall_pinion]
      simp [State.compareOverload_dwu]

theorem State.setChannel_keepsLimits (lane : Lane) (i : Channel) (g : ChannelConfig) :
    KeepsLimits s (s.setChannel lane i g) := by
  unfold State.setChannel
  split
  · dsimp only
    refine KeepsLimits.answer ?_ ..
    unfold State.noteMove
    split
    · exact .of_retarget_channels (by rfl) (by rfl) (by rfl)
    · have hmoved : KeepsLimits s (s.updVlu fun v => v.updChannel i fun c => c.configure g).channelMoved :=
        .of_retarget_channels (by rfl) (by rfl) (by rfl)
      exact hmoved.trans (.of_retarget_channels (by rfl) (by rfl) (by rfl))
  · exact .of_frame (by simp [LimitFrame])

theorem State.setChain_keepsLimits (lane : Lane) (rate window na nd nc : Byte) :
    KeepsLimits s (s.setChain lane rate window na nd nc) := by
  have hrate : KeepsLimits s (s.updScc fun n => { n with rate := rateOf rate }) := .of_frame (by simp [LimitFrame])
  refine (hrate.trans (State.updVlu_keepsLimits _ (fun v => v.configure window na nd nc) fun c => ?_)).answer ..
  unfold Vibration.configure
  dsimp only
  split
  · exact ⟨rfl, rfl⟩
  · rw [Eight.get_map]
    exact ⟨rfl, rfl⟩

theorem State.discover_keepsLimits (lane : Lane) (count : Byte) : KeepsLimits s (s.discover lane count) := by
  unfold State.discover State.forgetChannels
  dsimp only
  split
  · exact .of_frame (by simp [LimitFrame])
  · split
    · exact .of_frame (by simp [LimitFrame])
    · refine KeepsLimits.answer ?_ ..
      split <;> exact .of_retarget_channels (by rfl) (by rfl) (by rfl)

theorem State.setGains_keepsLimits (lane : Lane) (kp ki : Word16) (feedforward : Byte) (uMin uMax : Word16) :
    KeepsLimits s (s.setGains lane kp ki feedforward uMin uMax) := by
  unfold State.setGains
  split <;> exact .of_frame (by simp [LimitFrame])

/-! ### Reads, cursors and the trip table (R145, R146, R151 to R154) -/

theorem State.readSummary_keepsLimits (lane : Lane) (slot : Byte) (page : Option Byte) :
    KeepsLimits s (s.readSummary lane slot page) := by
  have hmark : ∀ i, KeepsLimits s (s.markRead lane i) := fun i => by
    unfold State.markRead
    split
    · exact .of_frame (by simp [LimitFrame])
    · exact .refl s
  unfold State.readSummary
  split
  · split
    · exact .of_frame (by simp [LimitFrame])
    · exact (hmark _).answer ..
  · split <;> exact .of_frame (by simp [LimitFrame])

theorem State.release_keepsLimits (lane : Lane) (slot : Byte) : KeepsLimits s (s.release lane slot) := by
  unfold State.release
  split
  · split <;> exact .of_frame (by simp [LimitFrame])
  · split <;> exact .of_frame (by simp [LimitFrame])

theorem State.putCursor_keepsLimits (lane : Lane) (c : Cursor) : KeepsLimits s (s.putCursor lane c) :=
  .of_frame ⟨rfl, rfl, rfl, rfl⟩

theorem State.setCursor_keepsLimits (lane : Lane) (slot pinion index direction : Byte) :
    KeepsLimits s (s.setCursor lane slot pinion index direction) := by
  unfold State.setCursor
  split
  · exact .of_frame (by simp [LimitFrame])
  · dsimp only
    split
    · exact .of_frame (by simp [LimitFrame])
    · exact (s.putCursor_keepsLimits ..).answer ..

theorem State.readNext_keepsLimits (lane : Lane) : KeepsLimits s (s.readNext lane) := by
  unfold State.readNext
  split
  · exact .of_frame (by simp [LimitFrame])
  · exact .of_frame (by simp [LimitFrame])
  · exact (s.putCursor_keepsLimits ..).answer ..
  · exact (s.putCursor_keepsLimits ..).answer ..

theorem State.fetchCompletes_keepsLimits (lane : Lane) : KeepsLimits s (s.fetchCompletes lane) := by
  unfold State.fetchCompletes
  split
  · split
    · exact .of_frame ⟨rfl, rfl, rfl, rfl⟩
    · exact .refl s
  all_goals exact .refl s

theorem State.ackNotice_keepsLimits (lane : Lane) (kind : Byte) : KeepsLimits s (s.ackNotice lane kind) := by
  unfold State.ackNotice
  dsimp only
  split <;> exact .of_frame (by simp [LimitFrame])

theorem State.setMask_keepsLimits (lane : Lane) (mask : Byte) : KeepsLimits s (s.setMask lane mask) :=
  .of_frame ⟨rfl, rfl, rfl, rfl⟩

/-! ### Selections, resets and timers (R8, R12, R144, R160 to R162, R175, R176) -/

theorem State.endBadFrame_keepsLimits (lane : Lane) (bytes : List Byte) : KeepsLimits s (s.endBadFrame lane bytes) := by
  have hclosed : KeepsLimits s ((s.openSelection lane).closeSelection lane bytes) := .of_frame (by simp [LimitFrame])
  unfold State.endBadFrame
  split
  · exact .refl s
  · dsimp only
    split
    · exact hclosed.trans (.of_frame ⟨rfl, rfl, rfl, rfl⟩)
    · exact hclosed

theorem State.endPending_keepsLimits (lane : Lane) (bytes : List Byte) : KeepsLimits s (s.endPending lane bytes) := by
  unfold State.endPending
  dsimp only
  split
  · exact .of_frame (by simp [LimitFrame])
  · exact .of_frame (by simp [LimitFrame])
  · exact .refl s
  · exact .refl s

theorem State.plantReset_keepsLimits (lane : Lane) (straps : Straps) : KeepsLimits s (s.plantReset lane straps) := by
  unfold State.plantReset
  split
  · exact .of_reset rfl rfl rfl
  · exact .of_frame (by simp [LimitFrame])

theorem State.powerUp_keepsLimits (straps : Straps) (pinLow : Bool) : KeepsLimits s (s.powerUp straps pinLow) := by
  unfold State.powerUp
  split <;> exact .of_reset rfl rfl rfl

theorem State.pinReset_keepsLimits : KeepsLimits s s.pinReset := by
  unfold State.pinReset
  split
  · exact .refl s
  all_goals exact .of_reset rfl rfl rfl

theorem State.pinRelease_keepsLimits (straps : Straps) : KeepsLimits s (s.pinRelease straps) := by
  unfold State.pinRelease
  split
  · exact .of_frame (by simp [LimitFrame])
  all_goals exact .refl s

theorem State.endInitialisation_keepsLimits : KeepsLimits s s.endInitialisation := by
  unfold State.endInitialisation
  split
  · exact .of_frame (by simp [LimitFrame])
  all_goals exact .refl s

theorem State.advanceTime_keepsLimits : KeepsLimits s s.advanceTime := by
  unfold State.advanceTime
  split
  · exact .of_frame (by simp [LimitFrame])
  · exact .refl s

theorem State.silenceExpires_keepsLimits (k : Pinion) : KeepsLimits s (s.silenceExpires k) := by
  unfold State.silenceExpires
  split
  · exact .refl s
  · dsimp only
    split
    case h_1 => exact .of_frame ⟨rfl, rfl, rfl, rfl⟩
    case h_2 | h_3 | h_4 => exact State.reportTrip_keepsLimits_of_dwu (by rfl) (by rfl) (by rfl)
    case h_5 | h_6 => exact .of_frame ⟨rfl, rfl, rfl, rfl⟩

theorem State.stopExpires_keepsLimits : KeepsLimits s s.stopExpires := by
  unfold State.stopExpires
  split
  · exact .refl s
  · dsimp only
    split
    · exact State.reportTrip_keepsLimits_of_dwu (by rfl) (by rfl) (by rfl)
    · exact .of_frame ⟨rfl, rfl, rfl, rfl⟩

theorem State.postTripExpires_keepsLimits : KeepsLimits s s.postTripExpires := by
  unfold State.postTripExpires
  split
  · split <;> exact .of_frame (by simp [LimitFrame])
  · exact .refl s

theorem State.roundTimer_keepsLimits : KeepsLimits s s.roundTimer := by
  unfold State.roundTimer
  split
  · exact .refl s
  all_goals exact .of_frame ⟨rfl, rfl, rfl, rfl⟩

theorem State.computationCompletes_keepsLimits : KeepsLimits s s.computationCompletes := by
  unfold State.computationCompletes
  split
  · exact .of_frame (by simp [LimitFrame])
  · exact .refl s

theorem State.levelComputationCompletes_keepsLimits (channel : Channel) :
    KeepsLimits s (s.levelComputationCompletes channel) := by
  unfold State.levelComputationCompletes
  split
  · exact s.levelCompletes_keepsLimits ..
  · exact .refl s

/-! ### Every command -/

theorem exec_keepsLimits (c : Instr) : ∃ t, exec c s = .next t ∧ KeepsLimits s t := by
  cases c with
  | selectionStart lane => exact ⟨_, rfl, .of_frame (by simp [LimitFrame])⟩
  | badFrame lane bytes => exact ⟨_, rfl, s.endBadFrame_keepsLimits ..⟩
  | pendingSelection lane bytes => exact ⟨_, rfl, s.endPending_keepsLimits ..⟩
  | nop lane => exact ⟨_, rfl, s.request_answer_keepsLimits ..⟩
  | readStatus lane => exact ⟨_, rfl, s.request_answer_keepsLimits ..⟩
  | readIdent lane => exact ⟨_, rfl, s.request_answer_keepsLimits ..⟩
  | readLimits lane page => exact ⟨_, rfl, s.request_answer_keepsLimits ..⟩
  | readChannel lane channel => exact ⟨_, rfl, s.request_answer_keepsLimits ..⟩
  | readNode lane position => exact ⟨_, rfl, s.request_keepsLimits _ _ _ fun _ => .of_frame (by simp [LimitFrame])⟩
  | readTripSummary lane slot page => exact ⟨_, rfl, s.request_keepsLimits _ _ _ fun u => u.readSummary_keepsLimits ..⟩
  | setCursor lane slot pinion index direction =>
    exact ⟨_, rfl, s.request_keepsLimits _ _ _ fun u => u.setCursor_keepsLimits ..⟩
  | readNext lane => exact ⟨_, rfl, s.request_keepsLimits _ _ _ fun u => u.readNext_keepsLimits ..⟩
  | ackNotice lane kind => exact ⟨_, rfl, s.request_keepsLimits _ _ _ fun u => u.ackNotice_keepsLimits ..⟩
  | setMask lane mask => exact ⟨_, rfl, s.request_keepsLimits _ _ _ fun u => u.setMask_keepsLimits ..⟩
  | sample lane iMeas n counter bridge demand =>
    exact ⟨_, rfl, s.request_keepsLimits _ _ _ fun u => u.takeSample_keepsLimits ..⟩
  | ackTrip lane => exact ⟨_, rfl, s.request_keepsLimits _ _ _ fun u => u.ackTrip_keepsLimits ..⟩
  | trip lane =>
    exact ⟨_, rfl, s.request_keepsLimits _ _ _ fun _ =>
      (State.reportTrip_keepsLimits_of_dwu (by rfl) (by rfl) (by rfl)).answer ..⟩
  | arm lane => exact ⟨_, rfl, s.request_keepsLimits _ _ _ fun u => u.arm_keepsLimits ..⟩
  | disarm lane => exact ⟨_, rfl, s.request_keepsLimits _ _ _ fun u => u.disarm_keepsLimits ..⟩
  | start lane => exact ⟨_, rfl, s.request_keepsLimits _ _ _ fun u => u.start_keepsLimits ..⟩
  | inch lane => exact ⟨_, rfl, s.request_keepsLimits _ _ _ fun u => u.inching_keepsLimits ..⟩
  | stop lane => exact ⟨_, rfl, s.request_keepsLimits _ _ _ fun u => u.stop_keepsLimits ..⟩
  | clearTrip lane => exact ⟨_, rfl, s.request_keepsLimits _ _ _ fun u => u.clearTrip_keepsLimits ..⟩
  | setLimits lane plant ceilA ceilB derate inchCeiling rampStep =>
    exact ⟨_, rfl, s.request_keepsLimits _ _ _ fun u => u.setLimits_keepsLimits ..⟩
  | setGains lane kp ki feedforward uMin uMax =>
    exact ⟨_, rfl, s.request_keepsLimits _ _ _ fun u => u.setGains_keepsLimits ..⟩
  | setShare lane lead offset => exact ⟨_, rfl, s.request_keepsLimits _ _ _ fun u => u.setShare_keepsLimits ..⟩
  | setWatch lane oc q decay imbalance shift persistence zeroBand zeroSpeed stopTimeout silenceCode =>
    exact ⟨_, rfl, s.request_keepsLimits _ _ _ fun u => u.setWatch_keepsLimits ..⟩
  | setChannel lane channel enabled group alert danger hysteresis tripOnLoss =>
    exact ⟨_, rfl, s.request_keepsLimits _ _ _ fun u => u.setChannel_keepsLimits ..⟩
  | setChain lane rate window na nd nc => exact ⟨_, rfl, s.request_keepsLimits _ _ _ fun u => u.setChain_keepsLimits ..⟩
  | discover lane count => exact ⟨_, rfl, s.request_keepsLimits _ _ _ fun u => u.discover_keepsLimits ..⟩
  | release lane slot => exact ⟨_, rfl, s.request_keepsLimits _ _ _ fun u => u.release_keepsLimits ..⟩
  | setTime lane time => exact ⟨_, rfl, s.request_keepsLimits _ _ _ fun _ => .of_frame (by simp [LimitFrame])⟩
  | clearCapture lane => exact ⟨_, rfl, s.request_keepsLimits _ _ _ fun _ => .of_frame (by simp [LimitFrame])⟩
  | clearCauses lane => exact ⟨_, rfl, s.request_keepsLimits _ _ _ fun _ => .of_frame (by simp [LimitFrame])⟩
  | reset lane straps => exact ⟨_, rfl, s.request_keepsLimits _ _ _ fun u => u.plantReset_keepsLimits ..⟩
  | powerOn straps pinLow => exact ⟨_, rfl, s.powerUp_keepsLimits ..⟩
  | resetPin => exact ⟨_, rfl, s.pinReset_keepsLimits⟩
  | resetPinRelease straps => exact ⟨_, rfl, s.pinRelease_keepsLimits ..⟩
  | initialisationEnd => exact ⟨_, rfl, s.endInitialisation_keepsLimits⟩
  | timeCountAdvance => exact ⟨_, rfl, s.advanceTime_keepsLimits⟩
  | rampTick => exact ⟨_, rfl, s.rampTick_keepsLimits⟩
  | silenceTimerExpiry pinion => exact ⟨_, rfl, s.silenceExpires_keepsLimits ..⟩
  | stopTimerExpiry => exact ⟨_, rfl, s.stopExpires_keepsLimits⟩
  | postTripTimerExpiry => exact ⟨_, rfl, s.postTripExpires_keepsLimits⟩
  | roundStart => exact ⟨_, rfl, s.roundTimer_keepsLimits⟩
  | replyWindowClose position words => exact ⟨_, rfl, s.closeWindow_keepsLimits ..⟩
  | computationCompletion => exact ⟨_, rfl, s.computationCompletes_keepsLimits⟩
  | levelComputationCompletion channel => exact ⟨_, rfl, s.levelComputationCompletes_keepsLimits ..⟩
  | fetchCompletion lane => exact ⟨_, rfl, s.fetchCompletes_keepsLimits ..⟩

end

/-- Taking the command from the queue touches no law; the command keeps them (R38 to R42, R83). -/
theorem step_keepsLimits {s t : State} (h : step s = .next t) : KeepsLimits s t := by
  unfold step at h
  split at h
  · cases h
    exact .refl s
  · rename_i c rest _
    have hqueue : KeepsLimits s { s with pending := rest } := .of_frame ⟨rfl, rfl, rfl, rfl⟩
    obtain ⟨u, hu, hkeeps⟩ := exec_keepsLimits { s with pending := rest } c
    rw [hu] at h
    cases h
    exact hqueue.trans hkeeps

/-- Settles O52: every command is a chain of operations of which each keeps both laws. -/
theorem limitAndOverloadLawsKept : Obligations.LimitAndOverloadLawsKept := by
  intro s t hlimit hoverload h
  exact ⟨(step_keepsLimits h).limit hlimit, (step_keepsLimits h).overload hoverload⟩

/-! ### Outside regulation (R41) -/

/-- With M at 0 both targets are 0, and no limit exceeds its target (R39, R41, R43). -/
theorem LimitLaw.zero_outside_regulation {s : State} (h : LimitLaw s) (hd : ¬InRegulation s) (k : Pinion) :
    s.slu.target.get k = 0 ∧ s.slu.limit.get k = 0 := by
  obtain ⟨hle, htarget⟩ := h.target k
  rw [State.targetOf_eq_zero s k (by rwa [inRegulation_iff, Bool.not_eq_true] at hd)] at hle htarget
  exact ⟨htarget, Nat.le_zero.mp hle⟩

/-- A limit that stands at its target takes no ramp step (R45). -/
theorem State.rampPinion_arrived {s : State} {k : Pinion} (h : s.slu.target.get k ≤ s.slu.limit.get k) :
    s.rampPinion k = s := if_neg (by omega)

/-- Settles O57: the laws of the limit chain and of the raw splits hold after the step, and outside regulation they
leave nothing but 0; a ramp tick then finds both limits at their targets. -/
theorem limitsAreZeroOutsideRegulation : Obligations.LimitsAreZeroOutsideRegulation := by
  refine ⟨fun k => by cases k <;> rfl, fun s t hlimit _ hregulator _ h hd k => ?step, fun s hlimit hd => ?tick⟩
  case step =>
    have hkept := (step_keepsLimits h).limit hlimit
    obtain ⟨htarget, hzero⟩ := hkept.zero_outside_regulation hd k
    have hraw : t.slu.raw.get k = 0 := by
      rw [(step_keepsLimits h).splits hregulator.splitsAtRest (by rwa [inRegulation_iff, Bool.not_eq_true] at hd),
        Pair.get_both]
    obtain ⟨hiref, hlimited⟩ := hkept.clamped k
    rw [hraw, hzero] at hiref hlimited
    exact ⟨htarget, hzero, hraw, hiref, hlimited⟩
  case tick =>
    have hstill : ∀ k, s.rampPinion k = s := fun k => by
      obtain ⟨htarget, hzero⟩ := hlimit.zero_outside_regulation hd k
      exact State.rampPinion_arrived (by omega)
    refine ⟨_, rfl, ?_⟩
    unfold State.rampTick
    rw [hstill .a, hstill .b]
    split <;> exact ⟨rfl, rfl⟩

end Sys2Proof.Machine
end

section
/-! PROOFS. The limit settings: what READ LIMITS shows of the limit chain and what SET LIMITS writes. -/

namespace Sys2Proof.Machine

/-! ### READ LIMITS (R54, R79) -/

theorem firstPage_iff (page : Option Byte) : firstPage page = true ↔ page = none ∨ page = some 0 := by
  cases page <;> simp [firstPage]

theorem optionalByte_eq_toList (b : Option Byte) : optionalByte b = b.toList := by cases b <;> rfl

theorem stagedNumber_eq (g : Option StagedSet) : stagedNumber g = (g.map (·.gains.number)).getD 0 := by cases g <;> rfl

/-- The pending marks are clear while no set is staged (R61, R79). -/
theorem pendingMarks_hasBits (g : Option StagedSet) :
    HasBits (pendingMarks g) [(g.map (·.mark.a)).getD false, (g.map (·.mark.b)).getD false] := by
  cases g with
  | none => intro i _; rcases i with _ | _ | i <;> simp [pendingMarks]
  | some g => exact packBits_hasBits [g.mark.a, g.mark.b]

/-- The page that the page byte selects, field by field (R54, R79; Table 6). -/
theorem State.limitsPage_eq (s : State) (page : Option Byte) : s.limitsPage page =
    if page = none ∨ page = some 0 then
      [pinionCode s.slu.lead] ++ int16 s.slu.offset ++
        nat16 s.slu.target.a ++ nat16 s.slu.limit.a ++ int16 s.slu.raw.a ++ int16 s.slu.iref.a ++
        [if s.slu.limited.a then 1 else 0] ++
        nat16 s.slu.target.b ++ nat16 s.slu.limit.b ++ int16 s.slu.raw.b ++ int16 s.slu.iref.b ++
        [if s.slu.limited.b then 1 else 0] ++
        [s.sourceByte .a, s.sourceByte .b, byteOf s.crg.applied.a.number, byteOf s.crg.applied.b.number,
          byteOf ((s.crg.staged.map (·.gains.number)).getD 0), pendingMarks s.crg.staged]
    else s.slu.settings := by
  simp only [State.limitsPage, firstPage_iff, ← stagedNumber_eq]
  rfl

/-- Settles O15: the source bytes and the pending marks by their own lemmas, the page by its page byte. -/
theorem readLimitsReply : Obligations.ReadLimitsReply := by
  intro s lane page h
  refine ⟨s.sourceByte .a, s.sourceByte .b, pendingMarks s.crg.staged, s.sourceByte_spec .a, s.sourceByte_spec .b,
    pendingMarks_hasBits _, _, exec_of_takes rfl h, rfl, ?_⟩
  have hanswered := answered_of_quiet (s := s) (lane := lane) (kind := .readLimits) (payload := page.toList)
    rfl .ok (s.limitsPage page)
  rw [State.limitsPage_eq] at hanswered
  rw [optionalByte_eq_toList, State.limitsPage_eq]
  exact hanswered

/-! ### SET LIMITS (R52, R53) -/

theorem State.setLimits_range {s : State} {lane : Lane} {p a b d i r : Word16} (h : ceilingOf p < ceilingOf d) :
    s.setLimits lane p a b d i r = s.answer lane .setLimits .range [] := if_pos h

/-- The settings page shows nothing that a recomputation of the targets changes (R53, R54). -/
theorem Retargeted.settings_eq {s t : State} (h : Retargeted s t) : t.slu.settings = s.slu.settings := by
  obtain ⟨hslu, -⟩ := h
  rw [hslu]
  rfl

/-- An accepted SET LIMITS writes its settings, recomputes both targets and echoes the settings (R43, R51, R53). -/
theorem State.setLimits_spec {s : State} {lane : Lane} {p a b d i r : Word16} (hc : s.slu.clamped)
    (h : ceilingOf d ≤ ceilingOf p) :
    ∃ t, s.setLimits lane p a b d i r = t.answer lane .setLimits .ok (s.slu.withSettings p a b d i r).settings ∧
      t = { s with lanes := t.lanes, slu := t.slu } ∧ Retargeted (s.updSlu fun u => u.withSettings p a b d i r) t ∧
      OnlyNotices s t (limitFalls s t) := by
  obtain ⟨hretargeted, hnotices⟩ := (s.updSlu fun u => u.withSettings p a b d i r).retarget_retargeted hc
  obtain ⟨lanes, heq⟩ := (s.updSlu fun u => u.withSettings p a b d i r).retarget_spec
  refine ⟨_, (if_neg (Nat.not_lt.mpr h)).trans ?_, ?_, hretargeted, hnotices⟩
  · dsimp only
    rw [hretargeted.settings_eq]
    rfl
  · rw [heq]
    rfl

/-- Settles O28: the refusal is the first check; an accepted request writes its settings and recomputes both targets. -/
theorem setLimitsWritesAndRetargets : Obligations.SetLimitsWritesAndRetargets := by
  intro s lane p a b d i r hlaw h
  refine ⟨fun hlt => refused_of_answer rfl h (State.setLimits_range hlt), fun hle => ?_⟩
  obtain ⟨t, hset, heq, hretargeted, hnotices⟩ := State.setLimits_spec (lane := lane) (a := a) (b := b) (i := i)
    (r := r) (s := s.closeSelection lane (requestFrame .setLimits (limitsPayload p a b d i r))) hlaw.clamped hle
  have hrun := exec_eq_of_takes (i := .setLimits lane p a b d i r) rfl h hset
  refine ⟨_, _, hrun, rfl, ?frame, hretargeted, ?lanes⟩
  case frame =>
    rw [heq]
    rfl
  case lanes =>
    have hdrive : t.rc.drive = s.rc.drive := by rw [heq]; rfl
    rw [← hdrive]
    exact answered_of_onlyNotices hnotices (fun j => limitBit_congr (State.closeSelection_role ..)) .ok _

end Sys2Proof.Machine
end

section
/-! PROOFS. The laws that the steps keep, at power-on. -/

namespace Sys2Proof.Machine

/-! ### The laws at power-on (R55, R78, R94, R115, R132, R148, R164) -/

/-- The part starts at rest, with the settings of R55. -/
theorem reset_limitLaw : LimitLaw State.reset :=
  limitLaw_of_atRest (u := .reset) rfl (by unfold SettingsInRange; decide) rfl

/-- Both sums are 0, far below Q (R94). -/
theorem reset_overloadLaw : OverloadLaw State.reset := by
  intro k
  cases k <;> exact ⟨by decide, fun h => absurd h (by decide)⟩

/-- The default gain set is sound, no set is staged and the RAU is idle (R58, R78). -/
theorem reset_regulatorLaw : RegulatorLaw State.reset := by
  refine ⟨fun k => ?_, fun g h => (by cases h), fun c h => (by cases h), fun _ => ⟨rfl, rfl, rfl, rfl, rfl⟩⟩
  cases k <;> exact ⟨by unfold accSound; decide, by unfold GainSet.sound; decide⟩

/-- The straps 0, 1, 2, 3 give each pinion one lane, and no lane is in a selection (R158, R164). -/
theorem reset_rauLaw : RauLaw State.reset := by
  refine ⟨by decide, fun i _ => reset_lanePending i, fun _ => rfl, List.nodup_nil, fun h => (by cases h)⟩

/-- Every slot is FREE (R148). -/
theorem reset_slot_free (i : Fin 8) : (State.reset.trc.slots.get i).state = .free := by rw [reset_slot]

theorem reset_tableLaw : TableLaw State.reset := by
  refine ⟨fun i h => ?_, by decide, fun i h => absurd (reset_slot_free i) h, fun i _ h => absurd (reset_slot_free i) h⟩
  rw [reset_slot_free] at h
  cases h

/-- Both rings are empty (R136). -/
theorem reset_snapshotLaw : SnapshotLaw State.reset := by
  intro k
  have hring : State.reset.trc.rings.get k = [] := by cases k <;> rfl
  rw [hring]
  exact ⟨Nat.zero_le _, trivial, fun _ h => (by cases h), fun i h => absurd (reset_slot_free i) h⟩

/-- Every cursor is IDLE (R157, R164). -/
theorem reset_cursorLaw : CursorLaw State.reset := by
  intro j
  obtain ⟨role, conflict, hj, -⟩ := reset_lane j
  rw [hj]
  exact trivial

theorem reset_vibrationLaw : VibrationLaw State.reset := by
  refine ⟨by decide, by decide, by decide, by decide, fun i => ?_⟩
  rw [reset_channel]
  decide

/-- Every channel is UNKNOWN (R132). -/
theorem reset_dangerLaw : DangerLaw State.reset := by
  intro c h
  rw [reset_channel] at h
  cases h

/-- Every node is ABSENT at its nominal position, and no discovery runs (R115). -/
theorem reset_chainLaw : ChainLaw State.reset := by
  refine ⟨fun c => ?entry, fun c h => ?searching, by decide⟩
  case entry =>
    rw [reset_node]
    exact ⟨⟨by dsimp only; omega, by dsimp only; omega⟩, Nat.zero_le _, by simp, Nat.zero_le _, Nat.zero_le _⟩
  case searching =>
    rw [reset_node] at h
    cases h

theorem reset_searchLaw : SearchLaw State.reset := fun _ _ _ _ h => by cases h

/-- Settles O59: each law by what its block holds after power-on. -/
theorem lawsAtReset : Obligations.LawsAtReset :=
  ⟨⟨reset_limitLaw, reset_overloadLaw⟩, ⟨reset_regulatorLaw, reset_rauLaw⟩,
    ⟨reset_tableLaw, reset_snapshotLaw, reset_cursorLaw⟩, ⟨reset_vibrationLaw, reset_dangerLaw⟩, reset_chainLaw,
    reset_searchLaw⟩

end Sys2Proof.Machine
end

section
/-! PROOFS. The completion of a computation. -/

namespace Sys2Proof.Machine

/-! ### COMPUTATION_COMPLETION (R65 to R73) -/

section
variable (s : State)

/-- The start of the waiting computation, if there is one (R61, R70, R72). -/
theorem State.startWaiting_spec :
    s.startWaiting = { s with crg := s.startWaiting.crg, rau := s.startWaiting.rau } ∧
      (s.rau.waiting = [] → s.startWaiting = s) ∧
      ∀ e rest, s.rau.waiting = e :: rest →
        ∃ d, Starts s.slu s.crg s.startWaiting.crg e d ∧ s.startWaiting.rau = ⟨some d, rest⟩ := by
  cases hw : s.rau.waiting with
  | nil =>
    have hstart : s.startWaiting = s := by simp only [State.startWaiting, hw]
    rw [hstart]
    exact ⟨rfl, fun _ => rfl, fun _ _ h => (List.cons_ne_nil _ _ h.symm).elim⟩
  | cons e rest =>
    have hstart : s.startWaiting = (s.updRau fun r => { r with waiting := rest }).startComputation e := by
      simp only [State.startWaiting, hw]
    obtain ⟨d, heq, hstarts⟩ := (s.updRau fun r => { r with waiting := rest }).startComputation_spec e
    rw [hstart]
    refine ⟨by rw [heq]; rfl, fun h => absurd h (List.cons_ne_nil _ _), fun _ _ h => ?_⟩
    cases h
    exact ⟨d, hstarts, congrArg State.rau heq⟩

/-- The results of computation c stand in its channel, and its reply in the pinion lane's holder (R73). -/
def State.delivered (s : State) (c : Computation) : State :=
  let k := c.entry.pinion
  let u := (s.updCrg fun r => { r with acc := r.acc.set k c.newAcc, sat := r.sat.set k c.newSat }).updRau
    fun r => { r with inFlight := none }
  u.answerPinion k (u.sampleReply k c.vDem c.flags)

theorem State.completeComputation_eq (c : Computation) :
    s.completeComputation c =
      ((s.delivered c).writeRecord c.entry.pinion c.entry.counter ((s.delivered c).completionRecord c)).startWaiting :=
  rfl

/-- The record of a completed computation as the recorder completes it (R73, R134, R135). -/
theorem State.delivered_record (c : Computation) :
    (s.delivered c).trc.complete c.entry.pinion c.entry.counter ((s.delivered c).completionRecord c) false =
      sampleRecord s c.entry c.vDem (decide (c.newSat = .high)) (decide (c.newSat = .low)) := rfl

/-- Everything the completion of a computation does behind its arithmetic (R70, R73). -/
theorem State.completeComputation_spec (c : Computation) : ∃ (t : State) (crg : Regulators) (f : LaneState → Byte)
    (r : Reply),
    t = s.completeComputation c ∧
      crg = { s.crg with
        acc := s.crg.acc.set c.entry.pinion c.newAcc, sat := s.crg.sat.set c.entry.pinion c.newSat } ∧
      t = { s with lanes := t.lanes, crg := t.crg, rau := t.rau, trc := t.trc } ∧
      (s.rau.waiting = [] → t.crg = crg ∧ t.rau = ⟨none, []⟩) ∧
      (∀ e rest, s.rau.waiting = e :: rest → ∃ d, Starts s.slu crg t.crg e d ∧ t.rau = ⟨some d, rest⟩) ∧
      Written s t c.entry.pinion
        (sampleRecord s c.entry c.vDem (decide (c.newSat = .high)) (decide (c.newSat = .low))) c.entry.counter ∧
      CloseBit s c.entry.pinion f ∧
      SampleReply s c.entry.pinion c.vDem c.entry.demandIgnored (decide (c.newSat = .high)) (decide (c.newSat = .low))
        c.newGains false r ∧
      ∀ j, t.lanes.get j =
        { s.lanes.get j with
          notices := (s.lanes.get j).notices ||| f (s.lanes.get j)
          holder := if (s.lanes.get j).role = pinionRole c.entry.pinion then r else (s.lanes.get j).holder } := by
  obtain ⟨hwritten, f, hclose, hnotices⟩ := (s.delivered c).writeRecord_spec c.entry.pinion c.entry.counter
    ((s.delivered c).completionRecord c)
  have hframe := (s.delivered c).writeRecord_frame c.entry.pinion c.entry.counter ((s.delivered c).completionRecord c)
  have heq := s.completeComputation_eq c
  rw [s.delivered_record c] at hwritten
  generalize (s.delivered c).writeRecord c.entry.pinion c.entry.counter ((s.delivered c).completionRecord c) = v at *
  obtain ⟨hstart, hidle, hwaiting⟩ := v.startWaiting_spec
  have hslu : v.slu = s.slu := by rw [hframe]; rfl
  have hcrg : v.crg = (s.delivered c).crg := by rw [hframe]
  have hrau : v.rau = ⟨none, s.rau.waiting⟩ := by rw [hframe]; rfl
  rw [hrau, hslu, hcrg] at hwaiting
  rw [hrau] at hidle
  rw [← heq] at hstart hidle hwaiting
  refine ⟨_, _, f, _, rfl, rfl, ?frame, ?idle, hwaiting, ?written, hclose,
    s.sampleReply_spec .., fun j => ?lanes⟩
  case frame =>
    rw [hstart, hframe]
    rfl
  case idle =>
    intro hnone
    rw [hidle hnone, hcrg, hrau, hnone]
    exact ⟨rfl, rfl⟩
  case written =>
    rw [hstart]
    exact hwritten
  case lanes =>
    have hlane : (s.delivered c).lanes.get j = if (s.lanes.get j).role = pinionRole c.entry.pinion then
        { s.lanes.get j with holder := ⟨0x10, .ok, s.rc.drive, s.sampleReply c.entry.pinion c.vDem c.flags⟩ }
        else s.lanes.get j := by
      simp only [State.delivered, State.answerPinion, State.updLanesWhere_get, beq_iff_eq]
      rfl
    rw [hstart, show ({ v with crg := _, rau := _ } : State).lanes = v.lanes from rfl, hnotices j,
      hclose.const _ (s.lanes.get j), hlane]
    split <;> rfl

/-- Settles O51: a channel's accumulator and gain set are sound, so its computation does the seven steps; without one in
flight the event changes nothing. -/
theorem computationCompletionByItsSteps : Obligations.ComputationCompletionByItsSteps := by
  intro s hlaw
  refine ⟨fun hnone => ?idle, fun c hc => ?completes⟩
  case idle =>
    exact congrArg Host.Outcome.next (by simp only [State.computationCompletes, hnone])
  case completes =>
    obtain ⟨-, -, hsound, -⟩ := hlaw
    obtain ⟨hacc, hgains⟩ := hsound c hc
    obtain ⟨t, crg, f, r, ht, hspec⟩ := s.completeComputation_spec c
    have hrun : s.computationCompletes = t := by simp only [State.computationCompletes, hc, ht]
    exact ⟨t, c.newAcc, c.vDem, c.newSat, crg, f, r, c.computed hacc hgains, congrArg Host.Outcome.next hrun, hspec⟩

end

end Sys2Proof.Machine
end

section
/-! PROOFS. The gain settings. -/

namespace Sys2Proof.Machine

/-! ### SET GAINS (R58 to R62) -/

theorem State.setGains_range {s : State} {lane : Lane} {kp ki : Word16} {ff : Byte} {lo hi : Word16}
    (h : 0 < lo.toInt ∨ hi.toInt < 0) : s.setGains lane kp ki ff lo hi = s.answer lane .setGains .range [] := if_pos h

/-- A sound set goes to the regulators, and the reply echoes it (R59). -/
theorem State.setGains_ok {s : State} {lane : Lane} {kp ki : Word16} {ff : Byte} {lo hi : Word16}
    (hlo : lo.toInt ≤ 0) (hhi : 0 ≤ hi.toInt) :
    s.setGains lane kp ki ff lo hi =
      (s.updCrg fun r => r.accept (gainsOf kp ki ff lo hi (nextSetNumber s.crg.lastSet)) s.rc.drive.regulating).answer
        lane .setGains .ok
        ((gainsOf kp ki ff lo hi (nextSetNumber s.crg.lastSet)).bytes s.rc.drive.regulating) :=
  if_neg (by omega)

theorem gainsOf_eq (kp ki : Word16) (ff : Byte) (lo hi : Word16) (number : Nat) :
    gainsOf kp ki ff lo hi number = ⟨kp.toNat, ki.toNat, decide (ff ≠ 0), lo.toInt, hi.toInt, number⟩ := by
  have hswitch : onOf ff = decide (ff ≠ 0) := by rw [Bool.eq_iff_iff]; simp [onOf]
  rw [gainsOf, hswitch]

/-- The echo of a gain set repeats the fields of its request, with the switch byte as 0 or 1 (R59; Table 6). -/
theorem gainsOf_bytes (kp ki : Word16) (ff : Byte) (lo hi : Word16) (number : Nat) (staged : Bool) :
    (gainsOf kp ki ff lo hi number).bytes staged =
      be16 kp ++ be16 ki ++ [if ff = 0 then 0 else 1] ++ be16 lo ++ be16 hi ++
        [byteOf number, flagByte staged, flagByte staged] := by
  have hnat : ∀ w : Word16, nat16 w.toNat = be16 w := fun w => by rw [nat16, BitVec.ofNat_toNat, BitVec.setWidth_eq]
  have hint : ∀ w : Word16, int16 w.toInt = be16 w := fun w => by rw [int16, BitVec.ofInt_toInt]
  have hswitch : flagByte (onOf ff) = if ff = 0 then 0 else 1 := by by_cases h : ff = 0 <;> simp [onOf, flagByte, h]
  simp only [GainSet.bytes, gainsOf, hnat, hint, hswitch]

/-- Settles O29: the bounds are checked first; the drive state then decides whether the set is applied or staged. -/
theorem setGainsAppliesOrStages : Obligations.SetGainsAppliesOrStages := by
  intro s lane kp ki ff lo hi h
  refine ⟨fun hbounds => refused_of_answer rfl h (State.setGains_range hbounds), fun hlo hhi => ?_⟩
  generalize hnumber : nextSetNumber s.crg.lastSet = number
  have hrun := exec_eq_of_takes (i := .setGains lane kp ki ff lo hi) rfl h (State.setGains_ok hlo hhi)
  have hanswered := answered_of_quiet (s := s) (lane := lane) (kind := .setGains) (payload := gainsPayload kp ki ff lo hi)
    (u := (s.closeSelection lane (requestFrame .setGains (gainsPayload kp ki ff lo hi))).updCrg fun r =>
      r.accept (gainsOf kp ki ff lo hi number) s.rc.drive.regulating) rfl .ok
    ((gainsOf kp ki ff lo hi number).bytes s.rc.drive.regulating)
  have hregulating := inRegulation_iff s
  rw [State.closeSelection_crg, State.closeSelection_rc, hnumber] at hrun
  rw [gainsOf_bytes] at hrun hanswered
  refine ⟨_, _, number, hnumber.symm, gainsOf_eq kp ki ff lo hi number, hrun, fun hreg => ?stages,
    fun hreg => ?applies, flagByte s.rc.drive.regulating, fun hreg => ?markSet, fun hreg => ?markClear, hanswered⟩
  case stages =>
    rw [hregulating.mp hreg]
    rfl
  case applies =>
    rw [Bool.eq_false_iff.mpr (mt hregulating.mpr hreg)]
    rfl
  case markSet =>
    rw [hregulating.mp hreg]
    rfl
  case markClear =>
    rw [Bool.eq_false_iff.mpr (mt hregulating.mpr hreg)]
    rfl

end Sys2Proof.Machine
end

section
/-! PROOFS. Which operations leave the lanes' selections and the raw splits as they were. -/

namespace Sys2Proof.Machine

section
variable (s : State) (j : Lane)

/-! ### Selections (R160)

The roles of the lanes stand beside their other frames in the support files; these are the same frames for the
selections. -/

@[simp] theorem LaneState.raise_selection (l : LaneState) (k : Notice) : (l.raise k).selection = l.selection := rfl

theorem State.updLane_selection (lane : Lane) {f : LaneState → LaneState} (hf : ∀ l, (f l).selection = l.selection) :
    ((s.updLane lane f).lanes.get j).selection = (s.lanes.get j).selection := by
  rw [State.updLane_get]
  split
  · exact hf _
  · rfl

theorem State.updLanesWhere_selection (p : LaneState → Bool) {f : LaneState → LaneState}
    (hf : ∀ l, (f l).selection = l.selection) :
    ((s.updLanesWhere p f).lanes.get j).selection = (s.lanes.get j).selection := by
  rw [State.updLanesWhere_get]
  split
  · exact hf _
  · rfl

@[simp] theorem State.raiseWatchers_selection (k : Notice) :
    ((s.raiseWatchers k).lanes.get j).selection = (s.lanes.get j).selection := s.updLanesWhere_selection j _ fun _ => rfl
@[simp] theorem State.raisePinion_selection (p : Pinion) (k : Notice) :
    ((s.raisePinion p k).lanes.get j).selection = (s.lanes.get j).selection := s.updLanesWhere_selection j _ fun _ => rfl
@[simp] theorem State.answer_selection (lane : Lane) (kind : RequestKind) (status : Status) (payload : List Byte) :
    ((s.answer lane kind status payload).lanes.get j).selection = (s.lanes.get j).selection :=
  s.updLane_selection j lane fun _ => rfl
@[simp] theorem State.answerPinion_selection (k : Pinion) (payload : List Byte) :
    ((s.answerPinion k payload).lanes.get j).selection = (s.lanes.get j).selection :=
  s.updLanesWhere_selection j _ fun _ => rfl
@[simp] theorem State.loseCursors_selection (slot : Fin 8) :
    ((s.loseCursors slot).lanes.get j).selection = (s.lanes.get j).selection :=
  s.updLanesWhere_selection j _ fun _ => rfl
@[simp] theorem State.captureRefusal_selection (lane : Lane) (kind : RequestKind) :
    ((s.captureRefusal lane kind).lanes.get j).selection = (s.lanes.get j).selection := by rw [State.captureRefusal_get]
@[simp] theorem State.retarget_selection : (s.retarget.lanes.get j).selection = (s.lanes.get j).selection := by
  rw [State.retarget_lanes]
@[simp] theorem State.rampPinion_selection (k : Pinion) :
    ((s.rampPinion k).lanes.get j).selection = (s.lanes.get j).selection := by
  unfold State.rampPinion
  dsimp only
  split
  · split <;> split <;> simp
  · rfl
@[simp] theorem State.moveTo_selection (d : DriveState) :
    ((s.moveTo d).lanes.get j).selection = (s.lanes.get j).selection := by
  simp [State.moveTo]
@[simp] theorem State.enterRest_selection (d : DriveState) :
    ((s.enterRest d).lanes.get j).selection = (s.lanes.get j).selection := by
  simp [State.enterRest]
@[simp] theorem State.closeRecord_selection (i : Fin 8) :
    ((s.closeRecord i).lanes.get j).selection = (s.lanes.get j).selection := by
  simp [State.closeRecord]
@[simp] theorem State.writeRecord_selection (k : Pinion) (counter : Byte) (draft : Snapshot) :
    ((s.writeRecord k counter draft).lanes.get j).selection = (s.lanes.get j).selection := by
  obtain ⟨-, f, -, hnotices⟩ := s.writeRecord_spec k counter draft
  rw [hnotices j]
@[simp] theorem State.openSlot_selection (i : Fin 8) (cause : Cause) (value limit : Nat) :
    ((s.openSlot i cause value limit).lanes.get j).selection = (s.lanes.get j).selection := by
  simp [State.openSlot]
@[simp] theorem State.recordTrip_selection (cause : Cause) (value limit : Nat) :
    ((s.recordTrip cause value limit).lanes.get j).selection = (s.lanes.get j).selection := by
  unfold State.recordTrip
  dsimp only
  split
  · split <;> simp
  · simp


theorem State.closeSelection_selection (lane : Lane) (bytes : List Byte) :
    ((s.closeSelection lane bytes).lanes.get j).selection = if j = lane then .none else (s.lanes.get j).selection := by
  rw [State.closeSelection_get]
  split <;> rfl

theorem State.startSelection_selection (lane : Lane) :
    ((s.startSelection lane).lanes.get j).selection =
      if j = lane then s.selectionKind lane else (s.lanes.get j).selection := by
  simp only [State.startSelection, State.updLane_get]
  split <;> rfl

/-! ### Raw splits (R31) -/

@[simp] theorem State.rampPinion_raw (k : Pinion) : (s.rampPinion k).slu.raw = s.slu.raw := by
  unfold State.rampPinion
  dsimp only
  split
  · split <;> split <;> rfl
  · rfl

@[simp] theorem State.moveTo_raw (d : DriveState) : (s.moveTo d).slu.raw = s.slu.raw := by
  simp [State.moveTo]

end

end Sys2Proof.Machine
end

section
/-! PROOFS. The regulators and the RAU: what the shared operations keep of their laws. -/

namespace Sys2Proof.Machine

/-! ### Sound regulators (R57, R58) -/

/-- The accumulators are within their bound, and the applied sets and a staged set are sound. -/
def Regulators.sound (r : Regulators) : Prop :=
  (∀ k, accSound (r.acc.get k) ∧ (r.applied.get k).sound) ∧ ∀ g, r.staged = some g → g.gains.sound

theorem accSound_zero : accSound 0 := by
  unfold accSound
  decide

/-- The results of a computation are written into its channel (R73). -/
theorem Regulators.sound.write {r : Regulators} (h : r.sound) {x : Int} (hx : accSound x) (k : Pinion) (y : Sat) :
    ({ r with acc := r.acc.set k x, sat := r.sat.set k y } : Regulators).sound := by
  obtain ⟨hchannels, hstaged⟩ := h
  refine ⟨fun j => ⟨?_, (hchannels j).2⟩, hstaged⟩
  show accSound ((r.acc.set k x).get j)
  rw [Pair.get_set]
  split
  · exact hx
  · exact (hchannels j).1

/-- The channels take up a staged set on leaving regulation (R63). -/
theorem Regulators.sound.settled {r : Regulators} (h : r.sound) (k : Pinion) : (r.settled k).sound := by
  obtain ⟨hchannels, hstaged⟩ := h
  unfold Regulators.settled
  split
  · rename_i g hg
    split
    · exact hstaged g hg
    · exact (hchannels k).2
  · exact (hchannels k).2

theorem Regulators.sound.rest {r : Regulators} (h : r.sound) : r.rest.sound := by
  rw [Regulators.rest_eq]
  refine ⟨fun k => ⟨?_, ?_⟩, fun g hg => by cases hg⟩
  · rw [Pair.get_both]
    exact accSound_zero
  · cases k <;> exact h.settled _

/-- An accepted set is applied or staged (R60, R61). -/
theorem Regulators.sound.accept {r : Regulators} (h : r.sound) {g : GainSet} (hg : g.sound) (staged : Bool) :
    (r.accept g staged).sound := by
  obtain ⟨hchannels, -⟩ := h
  cases staged with
  | true =>
    refine ⟨hchannels, fun x hx => ?_⟩
    cases hx
    exact hg
  | false =>
    refine ⟨fun k => ⟨(hchannels k).1, ?_⟩, fun x hx => by cases hx⟩
    show ((Pair.both g).get k).sound
    rw [Pair.get_both]
    exact hg

theorem Regulators.reset_sound : Regulators.reset.sound := by
  refine ⟨fun k => ?_, fun g hg => by cases hg⟩
  cases k <;> exact ⟨accSound_zero, by unfold GainSet.sound; decide⟩

/-- A computation starts with sound values, and the take-up of a staged set leaves sound regulators (R61, R72). -/
theorem Starts.sound {u : ShareLimit} {r r' : Regulators} {e : Entry} {c : Computation} (h : Starts u r r' e c)
    (hr : r.sound) : r'.sound ∧ c.entry = e ∧ accSound c.acc ∧ c.gains.sound := by
  obtain ⟨htaken, hnone, hc⟩ := h
  have hr' : r'.sound := by
    by_cases hmark : ∃ g, r.staged = some g ∧ g.mark.get e.pinion = true
    · obtain ⟨g, hg, hm⟩ := hmark
      obtain ⟨hchannels, hstaged⟩ := hr
      rw [(htaken g hg hm).1]
      refine ⟨fun j => ⟨(hchannels j).1, ?_⟩, fun x hx => ?_⟩
      · show ((r.applied.set e.pinion g.gains).get j).sound
        rw [Pair.get_set]
        split
        · exact hstaged g hg
        · exact (hchannels j).2
      · obtain ⟨-, hx⟩ := Option.ite_none_right_eq_some.mp hx
        cases hx
        exact hstaged g hg
    · rw [(hnone fun g hg => Bool.eq_false_iff.mpr fun hm => hmark ⟨g, hg, hm⟩).1]
      exact hr
  rw [hc]
  exact ⟨hr', rfl, hr'.1 e.pinion⟩

/-! ### The law of the regulators -/

/-- The computation in flight started with sound values (R72). -/
def Rau.sound (r : Rau) : Prop := ∀ c, r.inFlight = some c → accSound c.acc ∧ c.gains.sound

/-- Nothing regulates (R32, R63, R71). -/
def RegulatorsAtRest (s : State) : Prop :=
  s.crg.acc = .both 0 ∧ s.crg.sat = .both .zero ∧ s.crg.staged = none ∧ s.rau = .reset ∧ s.slu.raw = .both 0

theorem regulatorLaw_iff_sound (s : State) : RegulatorLaw s ↔
    s.crg.sound ∧ s.rau.sound ∧ (s.rc.drive.regulating = false → RegulatorsAtRest s) := by
  unfold RegulatorLaw Regulators.sound Rau.sound RegulatorsAtRest
  rw [and_assoc]

/-- A computation is in flight in regulation only (R71). -/
theorem RegulatorLaw.regulating_of_inFlight {s : State} (h : RegulatorLaw s) {c : Computation}
    (hc : s.rau.inFlight = some c) : s.rc.drive.regulating = true := by
  obtain ⟨-, -, hrest⟩ := (regulatorLaw_iff_sound s).mp h
  by_contra hd
  obtain ⟨-, -, -, hrau, -⟩ := hrest (Bool.eq_false_iff.mpr hd)
  rw [hrau] at hc
  cases hc

/-! ### The law of the RAU -/

theorem Rau.eq_idle_of_entries_eq_nil {r : Rau} (hw : r.inFlight = none → r.waiting = []) (h : r.entries = []) :
    r = ⟨none, []⟩ := by
  obtain ⟨inFlight, waiting⟩ := r
  cases inFlight with
  | some c => cases h
  | none => rw [show waiting = [] from hw rfl]

/-- A lane is pending while the RAU holds a computation of the pinion it carries (R162). -/
theorem State.lanePending_iff (s : State) (lane : Lane) :
    s.lanePending lane = true ↔ ∃ e ∈ s.rau.entries, (s.lanes.get lane).role.pinion? = some e.pinion := by
  unfold State.lanePending
  cases (s.lanes.get lane).role.pinion? with
  | none => simp
  | some k =>
    simp only [Rau.holds_iff, Option.some.injEq]
    exact exists_congr fun e => and_congr_right fun _ => eq_comm

/-- From `s` to `t` the lanes keep their roles, none enters a selection answered from its holder, and the phase of the
part stays. -/
@[simp] def LanesStand (s t : State) : Prop :=
  t.tbu.phase = s.tbu.phase ∧
    ∀ j, (t.lanes.get j).role = (s.lanes.get j).role ∧
      ((t.lanes.get j).selection = .holder → (s.lanes.get j).selection = .holder)

/-- Computations leave the RAU, or stay (R73, R75). -/
theorem RauLaw.of_sublist {s t : State} (h : RauLaw s) (hstand : LanesStand s t)
    (hw : t.rau.inFlight = none → t.rau.waiting = []) (hsub : t.rau.entries.Sublist s.rau.entries) : RauLaw t := by
  obtain ⟨hroles, hholder, -, hnodup, hheld⟩ := h
  obtain ⟨hphase, hlanes⟩ := hstand
  refine ⟨fun i j k hi hj => ?roles, fun i hi => ?holder, hw, hnodup.sublist (hsub.map _), fun hp => ?held⟩
  case roles =>
    rw [(hlanes i).1] at hi
    rw [(hlanes j).1] at hj
    exact hroles i j k hi hj
  case holder =>
    have hs := hholder i ((hlanes i).2 hi)
    rw [Bool.eq_false_iff, Ne, State.lanePending_iff] at hs ⊢
    rw [(hlanes i).1]
    exact fun ⟨e, he, hrole⟩ => hs ⟨e, hsub.subset he, hrole⟩
  case held =>
    rw [hphase] at hp
    obtain ⟨hidle, hnone⟩ := hheld hp
    rw [hidle] at hsub
    exact ⟨Rau.eq_idle_of_entries_eq_nil hw (List.sublist_nil.mp hsub), fun i hi => hnone i ((hlanes i).2 hi)⟩

/-- A computation enters the RAU: none of its pinion is in it, and no lane of its pinion is in a selection answered from
its holder (R64, R70, R162). -/
theorem RauLaw.of_entry {s t : State} (h : RauLaw s) (hstand : LanesStand s t) {e : Entry}
    (hentries : t.rau.entries = s.rau.entries ++ [e]) (hflight : t.rau.inFlight ≠ none)
    (hfree : ∀ x ∈ s.rau.entries, x.pinion ≠ e.pinion)
    (hlane : ∀ j, (s.lanes.get j).role.pinion? = some e.pinion → (s.lanes.get j).selection ≠ .holder)
    (hphase : s.tbu.phase ≠ .held) : RauLaw t := by
  obtain ⟨hroles, hholder, -, hnodup, -⟩ := h
  obtain ⟨hp, hlanes⟩ := hstand
  refine ⟨fun i j k hi hj => ?roles, fun i hi => ?holder, fun hn => absurd hn hflight, ?nodup,
    fun ht => absurd (hp.symm.trans ht) hphase⟩
  case roles =>
    rw [(hlanes i).1] at hi
    rw [(hlanes j).1] at hj
    exact hroles i j k hi hj
  case holder =>
    have hs := hholder i ((hlanes i).2 hi)
    rw [Bool.eq_false_iff, Ne, State.lanePending_iff] at hs ⊢
    rw [hentries, (hlanes i).1]
    rintro ⟨x, hx, hrole⟩
    rcases List.mem_append.mp hx with hx | hx
    · exact hs ⟨x, hx, hrole⟩
    · rw [List.mem_singleton.mp hx] at hrole
      exact hlane i hrole ((hlanes i).2 hi)
  case nodup =>
    rw [hentries, List.map_append, List.nodup_append]
    refine ⟨hnodup, List.nodup_singleton _, fun _ hm _ hy => ?_⟩
    obtain ⟨x, hx, rfl⟩ := List.mem_map.mp hm
    rw [List.mem_singleton.mp hy]
    exact hfree x hx

/-! ### Both laws together -/

/-- The laws of the regulators and of the RAU. -/
structure RegulationLaws (s : State) : Prop where
  regulators : RegulatorLaw s
  rau : RauLaw s

/-- From `s` to `t` nothing changes that the two laws speak of: regulation goes on, is entered, or stays away with the
raw splits as they were. -/
@[simp] def RegulationFrame (s t : State) : Prop :=
  (t.rc.drive.regulating = false → s.rc.drive.regulating = false ∧ t.slu.raw = s.slu.raw) ∧
    t.crg = s.crg ∧ t.rau = s.rau ∧ LanesStand s t

namespace RegulationLaws

variable {s t : State}

theorem frame (h : RegulationLaws s) (hf : RegulationFrame s t := by simp) : RegulationLaws t := by
  obtain ⟨hd, hcrg, hrau, hstand⟩ := hf
  have hregulators := (regulatorLaw_iff_sound s).mp h.regulators
  refine ⟨(regulatorLaw_iff_sound t).mpr ?_, h.rau.of_sublist hstand ?_ (by rw [hrau])⟩
  · unfold RegulatorsAtRest at hregulators ⊢
    rw [hcrg, hrau]
    refine ⟨hregulators.1, hregulators.2.1, fun ht => ?_⟩
    rw [(hd ht).2]
    exact hregulators.2.2 (hd ht).1
  · rw [hrau]
    obtain ⟨-, -, hwaiting, -⟩ := h.rau
    exact hwaiting

/-- Regulation has been left (R9, R63, R75). -/
theorem of_rest (h : RegulationLaws s) (hcrg : t.crg = s.crg.rest) (hrau : t.rau = .reset) (hraw : t.slu.raw = .both 0)
    (hstand : LanesStand s t) : RegulationLaws t := by
  obtain ⟨hsound, -, -⟩ := (regulatorLaw_iff_sound s).mp h.regulators
  refine ⟨(regulatorLaw_iff_sound t).mpr ⟨?_, ?_, fun _ => ⟨?_, ?_, ?_, hrau, hraw⟩⟩,
    h.rau.of_sublist hstand ?_ ?_⟩
  · rw [hcrg]
    exact hsound.rest
  · rw [hrau]
    exact fun c hc => by cases hc
  · rw [hcrg]
    rfl
  · rw [hcrg]
    rfl
  · rw [hcrg]
    rfl
  · rw [hrau]
    exact fun _ => rfl
  · rw [hrau]
    exact List.nil_sublist _

/-- Regulation goes on with sound regulators, a sound computation in flight and the RAU in order. -/
theorem of_regulating (hd : t.rc.drive.regulating = true) (hcrg : t.crg.sound) (hsound : t.rau.sound) (hrau : RauLaw t) :
    RegulationLaws t :=
  ⟨(regulatorLaw_iff_sound t).mpr ⟨hcrg, hsound, fun hf => by rw [hd] at hf; cases hf⟩, hrau⟩

theorem foldl {α : Type} {f : State → α → State} (h : RegulationLaws s) (l : List α)
    (hf : ∀ u x, RegulationLaws u → RegulationLaws (f u x)) : RegulationLaws (l.foldl f s) := by
  induction l generalizing s with
  | nil => exact h
  | cons x l ih => exact ih (hf s x h)

/-! ### Reports and the leaving of regulation (R9, R14, R15, R17) -/

theorem enterRest (h : RegulationLaws s) (d : DriveState) (hd : d.regulating = false) :
    RegulationLaws (s.enterRest d) :=
  h.of_rest (by simp) (by simp) (by rw [s.enterRest_slu d hd]; rfl) (by simp)

theorem raiseAll (h : RegulationLaws s) (k : Notice) : RegulationLaws (s.raiseAll k) := h.frame

theorem replyAbandoned (h : RegulationLaws s) (trip : Bool) (e : Entry) :
    RegulationLaws (s.replyAbandoned trip e) := h.frame (by simp [State.replyAbandoned])

theorem enterTrip (h : RegulationLaws s) (cause : Cause) (value limit : Nat) (trigger : Option Entry) :
    RegulationLaws (s.enterTrip cause value limit trigger) := by
  have habandoned : RegulationLaws (s.rau.entries.foldl State.abandonAtTrip s) :=
    h.foldl _ fun _ _ hu => hu.frame
  have hrecorded : RegulationLaws
      (((s.rau.entries.foldl State.abandonAtTrip s).writeTrigger trigger).recordTrip cause value limit) :=
    habandoned.frame
  have hmarks : RegulationLaws
      (((((s.rau.entries.foldl State.abandonAtTrip s).writeTrigger trigger).recordTrip cause value limit).enterRest
        .tripped).updRc fun r => { r with ack := .both false }) :=
    (hrecorded.enterRest .tripped rfl).frame
  unfold State.enterTrip
  dsimp only
  exact ((hmarks.foldl _ fun _ e hu => hu.replyAbandoned true e).raiseAll .trip).raiseAll .state

theorem reportTrip (h : RegulationLaws s) (cause : Cause) (value limit : Nat) (trigger : Option Entry) :
    RegulationLaws (s.reportTrip cause value limit trigger) := by
  unfold State.reportTrip
  split
  · exact h.frame
  · exact h.enterTrip ..

theorem endStop (h : RegulationLaws s) : RegulationLaws s.endStop := by
  have hrecords : RegulationLaws (s.rau.entries.foldl State.abandonAtStop (s.enterRest .ready)) :=
    (h.enterRest .ready rfl).foldl _ fun _ _ hu => hu.frame (by simp [State.abandonAtStop])
  unfold State.endStop
  dsimp only
  exact (hrecords.foldl _ fun _ e hu => hu.replyAbandoned false e).raiseAll .state

/-- A move of the drive state that does not leave regulation (R1, R39). -/
theorem moveTo (h : RegulationLaws s) (d : DriveState)
    (hd : d.regulating = false → s.rc.drive.regulating = false) : RegulationLaws (s.moveTo d) :=
  h.frame ⟨fun hr => ⟨hd (by simpa [State.moveTo] using hr), by simp⟩, by simp, by simp, by simp⟩

end RegulationLaws

end Sys2Proof.Machine
end

section
/-! PROOFS. The regulators and the RAU: samples, computations and resets keep their laws. -/

namespace Sys2Proof.Machine

/-! ### Samples (R64, R70, R77, R162) -/

theorem RauLaw.entries_eq_nil {s : State} (h : RauLaw s) (hn : s.rau.inFlight = none) : s.rau.entries = [] := by
  obtain ⟨-, -, hwaiting, -⟩ := h
  simp only [Rau.entries, hn, hwaiting hn]

/-- A computation that enters the RAU is the last of its entries (R70). -/
theorem State.enterRau_entries (s : State) (e : Entry) (hn : s.rau.inFlight = none → s.rau.entries = []) :
    (s.enterRau e).rau.entries = s.rau.entries ++ [e] ∧ (s.enterRau e).rau.inFlight ≠ none := by
  obtain ⟨-, hidle, hbusy, -⟩ := s.enterRau_spec e
  cases hi : s.rau.inFlight with
  | none =>
    obtain ⟨c, hstarts, hrau⟩ := hidle hi
    have hentry : c.entry = e := congrArg Computation.entry hstarts.2.2
    have hwaiting : s.rau.waiting = [] := by simpa only [Rau.entries, hi] using hn hi
    rw [hrau, hn hi]
    exact ⟨by simp only [Rau.entries, hentry, hwaiting, List.nil_append], Option.some_ne_none c⟩
  | some c =>
    rw [(hbusy c hi).2]
    exact ⟨by simp only [Rau.entries, hi, List.cons_append], Option.some_ne_none c⟩

/-- The end of a stop enters READY and stops the stop timer (R7, R9). -/
theorem State.endStop_rc (s : State) : s.endStop.rc = { s.rc with drive := .ready, stopTimer := none } := by
  have hrecords : ∀ (l : List Entry) (u : State), (l.foldl State.abandonAtStop u).rc = u.rc := by
    intro l
    induction l with
    | nil => exact fun _ => rfl
    | cons e l ih => exact fun u => (ih _).trans (u.abandonAtStop_rc e)
  obtain ⟨lanes, hreply, -⟩ := replyAll_spec false s.rau.entries
    (s.rau.entries.foldl State.abandonAtStop (s.enterRest .ready))
  unfold State.endStop
  dsimp only
  rw [hreply]
  exact (hrecords _ _).trans (s.enterRest_rc .ready)

/-- The lane has ended a selection that took a request: it is not pending, and the part is not held (R162, R176). -/
def Received (s : State) (lane : Lane) : Prop :=
  (s.lanes.get lane).selection = .none ∧ s.lanePending lane = false ∧ s.tbu.phase ≠ .held

namespace RegulationLaws

variable {s : State}

theorem answer (h : RegulationLaws s) (lane : Lane) (kind : RequestKind) (status : Status) (reply : List Byte) :
    RegulationLaws (s.answer lane kind status reply) := h.frame

theorem updLane (h : RegulationLaws s) (lane : Lane) {f : LaneState → LaneState} (hrole : ∀ l, (f l).role = l.role)
    (hselection : ∀ l, (f l).selection = l.selection) : RegulationLaws (s.updLane lane f) := by
  refine h.frame ⟨fun hd => ⟨hd, rfl⟩, rfl, rfl, rfl, fun j => ⟨?_, ?_⟩⟩
  · rw [State.updLane_get]
    split
    · exact hrole _
    · rfl
  · rw [s.updLane_selection j lane hselection]
    exact id

/-- A sample in regulation enters the RAU (R64). -/
theorem enterRau (h : RegulationLaws s) {lane : Lane} {e : Entry} (hd : s.rc.drive.regulating = true)
    (hrec : Received s lane) (hrole : (s.lanes.get lane).role.pinion? = some e.pinion) :
    RegulationLaws (s.enterRau e) := by
  obtain ⟨hselection, hpending, hphase⟩ := hrec
  obtain ⟨hsound, hflight, -⟩ := (regulatorLaw_iff_sound s).mp h.regulators
  obtain ⟨-, hidle, hbusy, -⟩ := s.enterRau_spec e
  obtain ⟨hentries, hne⟩ := s.enterRau_entries e h.rau.entries_eq_nil
  have hregulators : (s.enterRau e).crg.sound ∧ (s.enterRau e).rau.sound := by
    cases hi : s.rau.inFlight with
    | none =>
      obtain ⟨c, hstarts, hrau⟩ := hidle hi
      obtain ⟨hcrg, -, hc⟩ := hstarts.sound hsound
      rw [hrau]
      exact ⟨hcrg, fun x hx => by cases hx; exact hc⟩
    | some c =>
      obtain ⟨hcrg, hrau⟩ := hbusy c hi
      rw [hcrg, hrau]
      exact ⟨hsound, fun x hx => by cases hx; exact hflight c hi⟩
  refine of_regulating (by rwa [State.enterRau_rc]) hregulators.1 hregulators.2
    (h.rau.of_entry (by simp) hentries hne (fun x hx hk => ?free) (fun j hj => ?alone) hphase)
  case free =>
    rw [Bool.eq_false_iff, Ne, State.lanePending_iff] at hpending
    exact hpending ⟨x, hx, by rw [hrole, hk]⟩
  case alone =>
    obtain ⟨hroles, -⟩ := h.rau
    rw [hroles j lane e.pinion hj hrole, hselection]
    exact fun hs => by cases hs

theorem answerAtRest (h : RegulationLaws s) (lane : Lane) (e : Entry) (tripped : Bool) :
    RegulationLaws (s.answerAtRest lane e tripped) := by
  cases tripped with
  | true => exact h.answer ..
  | false => exact RegulationLaws.answer (h.frame (t := s.writeRecord e.pinion e.counter (s.draft e))) ..

theorem reportAll (h : RegulationLaws s) (e : Entry) (reports : List (Cause × Nat × Nat)) :
    RegulationLaws (s.reportAll e reports) :=
  h.foldl reports fun _ _ hu => hu.reportTrip ..

/-- Everything behind the checks of an arrival (R7, R26, R64, R77). -/
theorem finishSample (h : RegulationLaws s) {lane : Lane} {e : Entry} (demand : Option Word16) (tripped : Bool)
    (hrec : s.rc.drive.regulating = true →
      Received s lane ∧ (s.lanes.get lane).role.pinion? = some e.pinion) :
    RegulationLaws (s.finishSample lane e.pinion e demand tripped) := by
  by_cases hd : s.rc.drive.regulating = true
  case neg =>
    rw [State.finishSample_at_rest lane e.pinion e _ demand tripped (Bool.eq_false_iff.mpr hd) rfl]
    exact h.answerAtRest ..
  case pos =>
    by_cases hz : s.rc.drive = .stopping ∧ s.atZeroSpeed = true
    · rw [State.finishSample_ends_stop lane e.pinion e _ demand tripped hz.1 hz.2 (by rw [s.endStop_rc]; rfl) rfl]
      exact h.endStop.answerAtRest ..
    · obtain ⟨-, htake⟩ := s.takeDemand_spec e.pinion demand hd
      rw [State.finishSample_in_regulation lane e.pinion e demand tripped hd hz]
      generalize s.takeDemand e.pinion demand = v at htake ⊢
      have hv : RegulationLaws v := h.frame (by rw [htake]; simp [hd])
      obtain ⟨hreceived, hrole⟩ := hrec hd
      refine hv.enterRau (lane := lane) (by rw [htake]; exact hd) ?_ (by rw [htake]; exact hrole)
      rw [htake]
      exact hreceived

/-- An arriving SAMPLE (R10, R13, R80): an arrival that regulates has reported nothing, so its lane is as it was. -/
theorem takeSample (h : RegulationLaws s) {lane : Lane} (hrec : Received s lane) (iMeas n : Word16)
    (counter bridge : Byte) (demand : Option Word16) :
    RegulationLaws (s.takeSample lane iMeas n counter bridge demand) := by
  unfold State.takeSample
  split
  case h_2 => exact h
  case h_1 k hk =>
    obtain ⟨u, reports, hu, -, -, -, hcheck⟩ := s.checkSample_arrive ⟨k, iMeas, n, counter, false, false, s.rc.drive⟩ n
      bridge
    have hulaws : RegulationLaws u := h.frame (by rw [hu]; simp [heardBy])
    rw [State.sampleArrives_eq s lane k iMeas n counter bridge demand _ hcheck]
    refine (hulaws.reportAll _ reports).finishSample (e := ⟨k, iMeas, n, counter, false, false, s.rc.drive⟩) demand _
      fun hd => ?_
    cases reports with
    | nil =>
      rw [State.reportAll_nil, hu]
      exact ⟨hrec, hk⟩
    | cons r rs =>
      rw [State.reportAll_drive _ _ (List.cons_ne_nil r rs)] at hd
      cases hd

/-! ### The completion of a computation (R70, R73) -/

theorem computationCompletes (h : RegulationLaws s) : RegulationLaws s.computationCompletes := by
  unfold State.computationCompletes
  split
  case h_2 => exact h
  case h_1 c hc =>
    obtain ⟨hsound, hflight, -⟩ := (regulatorLaw_iff_sound s).mp h.regulators
    have hd := h.regulators.regulating_of_inFlight hc
    obtain ⟨t, crg, f, r, ht, hcrg, hframe, hidle, hwaiting, -, -, -, hlanes⟩ := s.completeComputation_spec c
    rw [← ht]
    have hwritten : crg.sound := hcrg ▸ hsound.write (c.newAcc_sound (hflight c hc).1) c.entry.pinion c.newSat
    have hstand : LanesStand s t := ⟨by rw [hframe], fun j => by rw [hlanes j]; exact ⟨rfl, id⟩⟩
    have htd : t.rc.drive.regulating = true := by rw [hframe]; exact hd
    have hentries : s.rau.entries = c.entry :: s.rau.waiting := by simp only [Rau.entries, hc]
    cases hw : s.rau.waiting with
    | nil =>
      obtain ⟨htcrg, htrau⟩ := hidle hw
      refine of_regulating htd (by rwa [htcrg]) (by rw [htrau]; exact fun x hx => by cases hx)
        (h.rau.of_sublist hstand ?_ ?_)
      · rw [htrau]
        exact fun _ => rfl
      · rw [htrau]
        exact List.nil_sublist _
    | cons e rest =>
      obtain ⟨d, hstarts, htrau⟩ := hwaiting e rest hw
      obtain ⟨htcrg, hentry, hdsound⟩ := hstarts.sound hwritten
      refine of_regulating htd htcrg (by rw [htrau]; exact fun x hx => by cases hx; exact hdsound)
        (h.rau.of_sublist hstand ?_ ?_)
      · rw [htrau]
        exact fun hn => absurd hn (Option.some_ne_none d)
      · rw [htrau, hentries, hw, ← hentry]
        exact List.sublist_cons_self ..

/-! ### Selections and requests (R160 to R163) -/

end RegulationLaws

/-- A selection that starts answered from the holder starts on a lane that is not pending, in a part that is not held
(R162, R176). -/
theorem State.selectionKind_holder {s : State} {lane : Lane} (h : s.selectionKind lane = .holder) :
    s.tbu.phase ≠ .held ∧ s.lanePending lane = false := by
  unfold State.selectionKind at h
  split_ifs at h with hheld hpending
  exact ⟨hheld, Bool.eq_false_iff.mpr hpending⟩

namespace RegulationLaws

variable {s : State}

theorem startSelection (h : RegulationLaws s) (lane : Lane) : RegulationLaws (s.startSelection lane) := by
  obtain ⟨hroles, hholder, hwaiting, hnodup, hheld⟩ := h.rau
  refine ⟨h.regulators, fun i j k hi hj => ?roles, fun i hi => ?holder, hwaiting, hnodup,
    fun hp => ⟨(hheld hp).1, fun i hi => ?held⟩⟩
  case roles =>
    rw [State.startSelection_role] at hi hj
    exact hroles i j k hi hj
  case holder =>
    have hpending : (s.startSelection lane).lanePending i = s.lanePending i := by
      rw [Bool.eq_iff_iff, State.lanePending_iff, State.lanePending_iff, State.startSelection_role]
      rfl
    rw [State.startSelection_selection] at hi
    rw [hpending]
    split at hi
    · rename_i hlane
      rw [hlane]
      exact (State.selectionKind_holder hi).2
    · exact hholder i hi
  case held =>
    rw [State.startSelection_selection] at hi
    split at hi
    · exact (State.selectionKind_holder hi).1 hp
    · exact (hheld hp).2 i hi

theorem openSelection (h : RegulationLaws s) (lane : Lane) : RegulationLaws (s.openSelection lane) := by
  unfold State.openSelection
  split
  · exact h.startSelection lane
  · exact h

theorem closeSelection (h : RegulationLaws s) (lane : Lane) (bytes : List Byte) :
    RegulationLaws (s.closeSelection lane bytes) := by
  refine h.frame ⟨fun hd => ⟨hd, rfl⟩, rfl, rfl, rfl, fun j => ⟨State.closeSelection_role .., fun hj => ?_⟩⟩
  rw [State.closeSelection_selection] at hj
  split at hj
  · cases hj
  · exact hj

/-- The end of a selection answered from the holder leaves its lane ready for the request (R162, R176). -/
theorem received (h : RegulationLaws s) {lane : Lane} (hholder : (s.lanes.get lane).selection = .holder)
    (bytes : List Byte) : Received (s.closeSelection lane bytes) lane := by
  obtain ⟨-, hpending, -, -, hheld⟩ := h.rau
  refine ⟨by rw [State.closeSelection_selection, if_pos rfl], ?_, fun hp => (hheld hp).2 lane hholder⟩
  have hs := hpending lane hholder
  rw [Bool.eq_false_iff, Ne, State.lanePending_iff] at hs ⊢
  rwa [State.closeSelection_role]

/-- A request keeps the laws where its block keeps them; every other way it can go touches lanes and the capture only
(R161 to R163, R165). -/
theorem request_of_received (h : RegulationLaws s) (lane : Lane) (kind : RequestKind) (payload : List Byte)
    {body : State → State} (hbody : ∀ u, RegulationLaws u → Received u lane → RegulationLaws (body u)) :
    RegulationLaws (s.request lane kind payload body) := by
  have hopened := h.openSelection lane
  have hclosed := hopened.closeSelection lane (requestFrame kind payload)
  unfold State.request State.judge
  dsimp only
  split
  case isFalse => exact hclosed
  case isTrue hholder =>
    split
    · exact hclosed.answer ..
    · split
      · exact hclosed.frame
      · exact hbody _ hclosed (hopened.received hholder _)

theorem request (h : RegulationLaws s) (lane : Lane) (kind : RequestKind) (payload : List Byte) {body : State → State}
    (hbody : ∀ u, RegulationLaws u → RegulationLaws (body u)) : RegulationLaws (s.request lane kind payload body) :=
  h.request_of_received lane kind payload fun u hu _ => hbody u hu

/-- A block that only answers. -/
theorem request_answer (h : RegulationLaws s) (lane : Lane) (kind : RequestKind) (payload : List Byte) (status : Status)
    (reply : State → List Byte) :
    RegulationLaws (s.request lane kind payload fun u => u.answer lane kind status (reply u)) :=
  h.request lane kind payload fun _ hu => hu.answer ..

theorem endBadFrame (h : RegulationLaws s) (lane : Lane) (bytes : List Byte) :
    RegulationLaws (s.endBadFrame lane bytes) := by
  have hclosed := (h.openSelection lane).closeSelection lane bytes
  unfold State.endBadFrame
  split
  · exact h
  · dsimp only
    split
    · exact hclosed.updLane lane (fun _ => rfl) fun _ => rfl
    · exact hclosed

theorem endPending (h : RegulationLaws s) (lane : Lane) (bytes : List Byte) :
    RegulationLaws (s.endPending lane bytes) := by
  have hclosed := (h.openSelection lane).closeSelection lane bytes
  unfold State.endPending
  dsimp only
  split
  · exact hclosed
  · exact hclosed
  · exact h
  · exact h

end RegulationLaws

end Sys2Proof.Machine
end

section
/-! PROOFS. The regulators and the RAU: every command keeps their laws. -/

namespace Sys2Proof.Machine

/-! ### Roles from the straps (R158) -/

theorem takenBelow_iff (straps : Straps) (i : Lane) :
    takenBelow straps i = true ↔ ∃ j, j < i ∧ straps.get j = straps.get i := by
  have hall : ∀ j : Lane, j ∈ ([0, 1, 2, 3] : List Lane) := by decide
  simp only [takenBelow, List.any_eq_true, Bool.and_eq_true, decide_eq_true_eq, beq_iff_eq, hall, true_and,
    Fin.val_fin_lt]

/-- A lane that carries a pinion is the lowest-numbered one with that pinion's strap code. -/
theorem settleRole_pinion {straps : Straps} {i : Lane} {k : Pinion} (h : (settleRole straps i).1.pinion? = some k) :
    takenBelow straps i = false ∧ (strapRole (straps.get i)).pinion? = some k := by
  unfold settleRole at h
  split_ifs at h with hmonitor htaken
  · cases h
  · cases h
  · exact ⟨Bool.eq_false_iff.mpr htaken, h⟩

theorem strapRole_pinion_injective {x y : BitVec 2} {k : Pinion} (hx : (strapRole x).pinion? = some k)
    (hy : (strapRole y).pinion? = some k) : x = y := by
  revert x y
  cases k <;> decide

theorem settleRole_pinion_unique {straps : Straps} {i j : Lane} {k : Pinion}
    (hi : (settleRole straps i).1.pinion? = some k) (hj : (settleRole straps j).1.pinion? = some k) : i = j := by
  obtain ⟨hilow, hirole⟩ := settleRole_pinion hi
  obtain ⟨hjlow, hjrole⟩ := settleRole_pinion hj
  have hcode := strapRole_pinion_injective hirole hjrole
  rw [Bool.eq_false_iff, Ne, takenBelow_iff] at hilow hjlow
  rcases lt_trichotomy i j with hlt | heq | hlt
  · exact absurd ⟨i, hlt, hcode⟩ hjlow
  · exact heq
  · exact absurd ⟨j, hlt, hcode.symm⟩ hilow

/-! ### Resets (R78, R158, R164, R175, R176) -/

/-- The roles of the lanes after a reset, and no selection that takes a request (R158, R164). -/
def LanesReset (lanes : Four LaneState) : Prop :=
  (∀ i j k, (lanes.get i).role.pinion? = some k → (lanes.get j).role.pinion? = some k → i = j) ∧
    ∀ i, (lanes.get i).selection ≠ .holder

theorem LaneState.afterReset_selection (l : LaneState) (role : Role) (conflict : Bool) :
    (l.afterReset role conflict).selection ≠ .holder := by
  unfold LaneState.afterReset
  dsimp only
  split <;> decide

theorem settledLanes_reset (lanes : Four LaneState) (straps : Straps) : LanesReset (settledLanes lanes straps) := by
  unfold LanesReset settledLanes
  simp only [Four.get_map]
  exact ⟨fun i j k hi hj => settleRole_pinion_unique hi hj, fun i => LaneState.afterReset_selection _ _ _⟩

theorem RauLaw.heldLanes_reset {s : State} (h : RauLaw s) : LanesReset (heldLanes s.lanes) := by
  obtain ⟨hroles, -⟩ := h
  unfold LanesReset heldLanes
  simp only [Four.get_map]
  exact ⟨hroles, fun i => LaneState.afterReset_selection _ _ _⟩

/-- No lane is answered from its holder, so what the RAU holds does not matter to the roles (R164). -/
theorem RauLaw.of_lanesReset {s t : State} (h : RauLaw s) (hlanes : LanesReset t.lanes) (hrau : t.rau = s.rau)
    (hphase : t.tbu.phase = .held → t.rau = ⟨none, []⟩) : RauLaw t := by
  obtain ⟨-, -, hwaiting, hnodup, -⟩ := h
  obtain ⟨hroles, hnone⟩ := hlanes
  rw [← hrau] at hwaiting hnodup
  exact ⟨hroles, fun i hi => absurd hi (hnone i), hwaiting, hnodup, fun hp => ⟨hphase hp, hnone⟩⟩

/-- Every reset leaves the regulators and the RAU at their values of R78. -/
theorem regulationLaws_blocksReset (s : State) {lanes : Four LaneState} (hlanes : LanesReset lanes)
    (configs : Eight ChannelConfig) (trc : Recorder) (causes : ResetCauses) (phase : Phase) :
    RegulationLaws (s.blocksReset lanes configs trc causes phase) := by
  obtain ⟨hroles, hnone⟩ := hlanes
  refine ⟨(regulatorLaw_iff_sound _).mpr ⟨Regulators.reset_sound, fun c hc => ?_, fun _ => ⟨rfl, rfl, rfl, rfl, rfl⟩⟩,
    hroles, fun i hi => absurd hi (hnone i), fun _ => rfl, List.nodup_nil, fun _ => ⟨rfl, hnone⟩⟩
  cases hc

namespace RegulationLaws

variable {s : State}

theorem plantReset (h : RegulationLaws s) (lane : Lane) (straps : Straps) : RegulationLaws (s.plantReset lane straps) := by
  unfold State.plantReset
  split
  · exact regulationLaws_blocksReset _ (settledLanes_reset ..) ..
  · exact h.answer ..

theorem powerUp (h : RegulationLaws s) (straps : Straps) (pinLow : Bool) : RegulationLaws (s.powerUp straps pinLow) := by
  unfold State.powerUp
  split
  · exact regulationLaws_blocksReset _ h.rau.heldLanes_reset ..
  · exact regulationLaws_blocksReset _ (settledLanes_reset ..) ..

theorem pinReset (h : RegulationLaws s) : RegulationLaws s.pinReset := by
  unfold State.pinReset
  split
  · exact h
  all_goals exact regulationLaws_blocksReset _ h.rau.heldLanes_reset ..

theorem pinRelease (h : RegulationLaws s) (straps : Straps) : RegulationLaws (s.pinRelease straps) := by
  unfold State.pinRelease
  split
  · exact ⟨h.regulators, h.rau.of_lanesReset (settledLanes_reset ..) rfl fun hp => by cases hp⟩
  all_goals exact h

/-- The end of the initialisation is not the release of a held part (R176). -/
theorem endInitialisation (h : RegulationLaws s) : RegulationLaws s.endInitialisation := by
  unfold State.endInitialisation
  split
  · obtain ⟨hroles, hholder, hwaiting, hnodup, -⟩ := h.rau
    have hworking : RegulationLaws (s.updTbu fun t => { t with phase := .working }) :=
      ⟨h.regulators, hroles, hholder, hwaiting, hnodup, fun hp => by cases hp⟩
    exact hworking.raiseAll .state
  all_goals exact h

/-! ### The requests of run control (R3 to R6, R19, R20) -/

theorem arm (h : RegulationLaws s) (lane : Lane) : RegulationLaws (s.arm lane) := by
  unfold State.arm
  split
  · exact h.answer ..
  · rename_i hd
    split
    · exact h.answer ..
    · split
      · exact h.answer ..
      · exact (h.moveTo .ready fun _ => by rw [not_not.mp hd]; rfl).answer ..

theorem disarm (h : RegulationLaws s) (lane : Lane) : RegulationLaws (s.disarm lane) := by
  unfold State.disarm
  split
  · exact h.answer ..
  · exact ((h.enterRest .halt rfl).raiseAll .state).answer ..

theorem start (h : RegulationLaws s) (lane : Lane) : RegulationLaws (s.start lane) := by
  have hclear : RegulationLaws (s.updDwu DriveWatch.clearImbalance) := h.frame
  unfold State.start
  split
  · exact h.answer ..
  · exact (hclear.moveTo .run fun hd => by cases hd).answer ..

theorem inching (h : RegulationLaws s) (lane : Lane) : RegulationLaws (s.inching lane) := by
  unfold State.inching
  split
  · exact h.answer ..
  · exact (h.moveTo .inch fun hd => by cases hd).answer ..

theorem stop (h : RegulationLaws s) (lane : Lane) : RegulationLaws (s.stop lane) := by
  have htimer : RegulationLaws s.startStopTimer := h.frame (by simp [State.startStopTimer])
  have hclear : RegulationLaws (s.startStopTimer.updDwu DriveWatch.clearImbalance) := htimer.frame
  unfold State.stop
  split
  · exact (htimer.moveTo .stopping fun hd => by cases hd).answer ..
  · exact (hclear.moveTo .stopping fun hd => by cases hd).answer ..
  all_goals exact h.answer ..

theorem clearTrip (h : RegulationLaws s) (lane : Lane) : RegulationLaws (s.clearTrip lane) := by
  have hacks : RegulationLaws (s.updRc RunControl.clearAcks) := h.frame (by simp [RunControl.clearAcks])
  unfold State.clearTrip
  split
  · exact h.answer ..
  · exact ((hacks.enterRest .halt rfl).raiseAll .state).answer ..

theorem ackTrip (h : RegulationLaws s) (lane : Lane) : RegulationLaws (s.ackTrip lane) := by
  unfold State.ackTrip
  split
  · split
    · exact h.frame (by simp [RunControl.acknowledged])
    · exact h
  · exact h.answer ..

/-! ### The plant's settings (R24, R52, R59, R85, R117, R119, R130) -/

theorem setLimits (h : RegulationLaws s) (lane : Lane) (plant ceilA ceilB derate inchCeiling rampStep : Word16) :
    RegulationLaws (s.setLimits lane plant ceilA ceilB derate inchCeiling rampStep) := by
  unfold State.setLimits
  split
  · exact h.answer ..
  · exact h.frame (by simp [ShareLimit.withSettings])

/-- A set that passes the bounds is sound; outside regulation it is applied at once, so none stays staged (R58, R60,
R61). -/
theorem setGains (h : RegulationLaws s) (lane : Lane) (kp ki : Word16) (ff : Byte) (lo hi : Word16) :
    RegulationLaws (s.setGains lane kp ki ff lo hi) := by
  by_cases hbounds : 0 < lo.toInt ∨ hi.toInt < 0
  case pos =>
    rw [State.setGains_range hbounds]
    exact h.answer ..
  case neg =>
    obtain ⟨hlo, hhi⟩ := not_or.mp hbounds
    rw [State.setGains_ok (not_lt.mp hlo) (not_lt.mp hhi)]
    generalize hg : gainsOf kp ki ff lo hi (nextSetNumber s.crg.lastSet) = g
    have hsound : g.sound := hg ▸ ⟨not_lt.mp hlo, not_lt.mp hhi⟩
    obtain ⟨hcrg, hrau, hrest⟩ := (regulatorLaw_iff_sound s).mp h.regulators
    refine RegulationLaws.answer (s := s.updCrg fun r => r.accept g s.rc.drive.regulating)
      ⟨(regulatorLaw_iff_sound _).mpr ⟨hcrg.accept hsound _, hrau, fun hd => ?_⟩, h.rau⟩ ..
    obtain ⟨hacc, hsat, -, hidle, hraw⟩ := hrest hd
    have happlied : (s.crg.accept g s.rc.drive.regulating) =
        { s.crg with applied := .both g, staged := none, lastSet := g.number } := by
      rw [show s.rc.drive.regulating = false from hd]
      rfl
    unfold RegulatorsAtRest
    rw [State.updCrg_crg, happlied]
    exact ⟨hacc, hsat, rfl, hidle, hraw⟩

theorem setShare (h : RegulationLaws s) (lane : Lane) (lead : Byte) (offset : Word16) :
    RegulationLaws (s.setShare lane lead offset) := h.frame (by simp [State.setShare, ShareLimit.withShare])

theorem compareOverload (h : RegulationLaws s) (k : Pinion) : RegulationLaws (s.compareOverload k) := by
  have hsum : RegulationLaws (s.updDwu fun w => { w with ol := w.ol.set k w.watch.q }) := h.frame
  unfold State.compareOverload
  split
  · exact hsum.reportTrip ..
  · exact h

theorem setWatch (h : RegulationLaws s) (lane : Lane) (w : WatchSettings) : RegulationLaws (s.setWatch lane w) := by
  have hsettings : RegulationLaws (s.updDwu fun d => { d with watch := w }) := h.frame
  exact ((hsettings.compareOverload .a).compareOverload .b).answer ..

/-! ### Channels and the chain (R97, R102 to R104, R109 to R111, R118 to R122, R124 to R130) -/

theorem noteMove (h : RegulationLaws s) (c : Channel) (before : ChannelState) : RegulationLaws (s.noteMove c before) := by
  unfold State.noteMove
  split
  · exact h
  · exact h.frame (by simp [State.channelMoved])

theorem setChannel (h : RegulationLaws s) (lane : Lane) (i : Channel) (g : ChannelConfig) :
    RegulationLaws (s.setChannel lane i g) := by
  have hconfigured : RegulationLaws (s.updVlu fun v => v.updChannel i fun c => c.configure g) := h.frame
  unfold State.setChannel
  split
  · exact (hconfigured.noteMove i (s.vlu.channels.get i).state).frame
  · exact h.answer ..

theorem discover (h : RegulationLaws s) (lane : Lane) (count : Byte) : RegulationLaws (s.discover lane count) := by
  unfold State.discover State.forgetChannels
  dsimp only
  split
  · exact h.answer ..
  · split
    · exact h.answer ..
    · split
      · exact h.frame (by simp [State.channelMoved])
      · exact h.frame

theorem levelCompletes (h : RegulationLaws s) (c : Channel) (l : LevelComputation) :
    RegulationLaws (s.levelCompletes c l) := by
  have hlevel : RegulationLaws
      (s.updVlu fun v => v.updChannel c fun _ => s.vlu.completeLevel (s.vlu.channels.get c) l s.tbu.time) := h.frame
  unfold State.levelCompletes
  dsimp only
  split
  · exact (hlevel.reportTrip ..).noteMove ..
  · exact hlevel.noteMove ..

theorem levelComputationCompletes (h : RegulationLaws s) (c : Channel) :
    RegulationLaws (s.levelComputationCompletes c) := by
  unfold State.levelComputationCompletes
  split
  · exact h.levelCompletes ..
  · exact h

theorem nodeLost (h : RegulationLaws s) (c : Channel) : RegulationLaws (s.nodeLost c) := by
  have hforgotten : RegulationLaws (s.updVlu fun v => v.updChannel c ChannelEntry.forget) := h.frame
  unfold State.nodeLost
  dsimp only
  split
  · exact (hforgotten.reportTrip ..).noteMove ..
  · exact hforgotten.noteMove ..

theorem closePolled (h : RegulationLaws s) (c : Fin 8) (words : List ChainWord) :
    RegulationLaws (s.closePolled c words) := by
  have hsettled : RegulationLaws (s.updScc fun n =>
      n.setNode c ((s.scc.nodes.get c).settle ((s.scc.nodes.get c).receive c words))) := h.frame
  unfold State.closePolled State.handOver
  dsimp only
  split
  · split
    · exact hsettled.nodeLost c
    · split
      · exact hsettled.frame
      · exact hsettled
  · exact h

theorem closeSearch (h : RegulationLaws s) (c : Fin 8) (words : List ChainWord) :
    RegulationLaws (s.closeSearch c words) := by
  have hlock : ∀ d w, RegulationLaws (s.lockPosition d c w) := fun d w => by
    unfold State.lockPosition
    dsimp only
    split
    · exact h.frame
    · exact h.frame (by simp [State.endDiscovery])
  have hmiss : ∀ d rounds, RegulationLaws (s.missSearch d c rounds) := fun d rounds => by
    unfold State.missSearch
    split
    · exact h.frame (by simp [State.endDiscovery])
    · exact h
  unfold State.closeSearch
  split
  · exact h
  · split
    · exact h
    · split
      · split
        · exact hlock ..
        · exact hmiss ..
      · exact h

theorem closeWindow (h : RegulationLaws s) (c : Fin 8) (words : List ChainWord) :
    RegulationLaws (s.closeWindow c words) := by
  unfold State.closeWindow
  split
  · exact h
  · rename_i r _
    have hround : RegulationLaws (s.updScc fun n => { n with round := r.close c }) := h.frame
    dsimp only
    split
    · exact hround.closePolled c words
    · split
      · exact hround.closeSearch c words
      · exact h

theorem roundTimer (h : RegulationLaws s) : RegulationLaws s.roundTimer := by
  unfold State.roundTimer
  split
  · exact h
  all_goals exact h.frame (by simp [State.startRound])

/-! ### Reads, notices, cursors and the trip table (R145, R146, R151 to R154, R167, R168) -/

theorem readSummary (h : RegulationLaws s) (lane : Lane) (slot : Byte) (page : Option Byte) :
    RegulationLaws (s.readSummary lane slot page) := by
  have hmark : ∀ i, RegulationLaws (s.markRead lane i) := fun i => by
    unfold State.markRead
    split
    · exact h.frame
    · exact h
  unfold State.readSummary
  split
  · split
    · exact h.answer ..
    · exact (hmark _).answer ..
  · split <;> exact h.answer ..

theorem release (h : RegulationLaws s) (lane : Lane) (slot : Byte) : RegulationLaws (s.release lane slot) := by
  unfold State.release
  split
  · split <;> exact h.frame
  · split <;> exact h.frame

theorem putCursor (h : RegulationLaws s) (lane : Lane) (c : Cursor) : RegulationLaws (s.putCursor lane c) :=
  h.updLane lane (fun _ => rfl) fun _ => rfl

theorem setCursor (h : RegulationLaws s) (lane : Lane) (slot pinion index direction : Byte) :
    RegulationLaws (s.setCursor lane slot pinion index direction) := by
  unfold State.setCursor
  split
  · exact h.answer ..
  · dsimp only
    split
    · exact h.answer ..
    · exact (h.putCursor ..).answer ..

theorem readNext (h : RegulationLaws s) (lane : Lane) : RegulationLaws (s.readNext lane) := by
  unfold State.readNext
  split
  · exact h.answer ..
  · exact h.answer ..
  · exact (h.putCursor ..).answer ..
  · exact (h.putCursor ..).answer ..

theorem fetchCompletes (h : RegulationLaws s) (lane : Lane) : RegulationLaws (s.fetchCompletes lane) := by
  unfold State.fetchCompletes
  split
  · split
    · exact (h.putCursor ..).updLane lane (fun _ => rfl) fun _ => rfl
    · exact h
  all_goals exact h

theorem ackNotice (h : RegulationLaws s) (lane : Lane) (kind : Byte) : RegulationLaws (s.ackNotice lane kind) := by
  have hleaves : ∀ k, RegulationLaws (s.updLane lane (·.acknowledge k)) := fun _ =>
    h.updLane lane (fun _ => rfl) fun _ => rfl
  unfold State.ackNotice
  dsimp only
  split
  · exact (hleaves _).answer ..
  · exact h.answer ..

theorem setMask (h : RegulationLaws s) (lane : Lane) (mask : Byte) : RegulationLaws (s.setMask lane mask) := by
  have hmask : RegulationLaws (s.updLane lane fun l => { l with mask := mask }) :=
    h.updLane lane (fun _ => rfl) fun _ => rfl
  exact hmask.answer ..

/-! ### Timers (R8, R12, R45, R84, R144, R172) -/

theorem advanceTime (h : RegulationLaws s) : RegulationLaws s.advanceTime := by
  unfold State.advanceTime
  split
  · exact h.frame
  · exact h

theorem rampTick (h : RegulationLaws s) : RegulationLaws s.rampTick := by
  unfold State.rampTick
  split
  · exact h.frame
  · exact h

theorem silenceExpires (h : RegulationLaws s) (k : Pinion) : RegulationLaws (s.silenceExpires k) := by
  have hsilent : RegulationLaws (s.updRc fun r => r.silence k) := h.frame (by simp [RunControl.silence])
  unfold State.silenceExpires
  split
  · exact h
  · dsimp only
    split
    case h_1 => exact hsilent.frame (by simp [RunControl.clearReady])
    case h_2 | h_3 | h_4 => exact hsilent.reportTrip ..
    case h_5 | h_6 => exact hsilent

theorem stopExpires (h : RegulationLaws s) : RegulationLaws s.stopExpires := by
  have hstopped : RegulationLaws (s.updRc fun r => { r with stopTimer := none }) := h.frame
  unfold State.stopExpires
  split
  · exact h
  · dsimp only
    split
    · exact hstopped.reportTrip ..
    · exact hstopped

theorem postTripExpires (h : RegulationLaws s) : RegulationLaws s.postTripExpires := by
  unfold State.postTripExpires
  split
  · split <;> exact h.frame
  · exact h

/-! ### Every command -/

theorem exec (h : RegulationLaws s) (c : Instr) : ∃ t, Machine.exec c s = .next t ∧ RegulationLaws t := by
  cases c with
  | selectionStart lane => exact ⟨_, rfl, h.startSelection lane⟩
  | badFrame lane bytes => exact ⟨_, rfl, h.endBadFrame lane bytes⟩
  | pendingSelection lane bytes => exact ⟨_, rfl, h.endPending lane bytes⟩
  | nop lane => exact ⟨_, rfl, h.request_answer ..⟩
  | readStatus lane => exact ⟨_, rfl, h.request_answer ..⟩
  | readIdent lane => exact ⟨_, rfl, h.request_answer ..⟩
  | readLimits lane page => exact ⟨_, rfl, h.request_answer ..⟩
  | readChannel lane channel => exact ⟨_, rfl, h.request_answer ..⟩
  | readNode lane position => exact ⟨_, rfl, h.request _ _ _ fun _ hu => hu.frame⟩
  | readTripSummary lane slot page => exact ⟨_, rfl, h.request _ _ _ fun _ hu => hu.readSummary ..⟩
  | setCursor lane slot pinion index direction => exact ⟨_, rfl, h.request _ _ _ fun _ hu => hu.setCursor ..⟩
  | readNext lane => exact ⟨_, rfl, h.request _ _ _ fun _ hu => hu.readNext lane⟩
  | ackNotice lane kind => exact ⟨_, rfl, h.request _ _ _ fun _ hu => hu.ackNotice lane kind⟩
  | setMask lane mask => exact ⟨_, rfl, h.request _ _ _ fun _ hu => hu.setMask lane mask⟩
  | sample lane iMeas n counter bridge demand =>
    exact ⟨_, rfl, h.request_of_received _ _ _ fun _ hu hrec => hu.takeSample hrec ..⟩
  | ackTrip lane => exact ⟨_, rfl, h.request _ _ _ fun _ hu => hu.ackTrip lane⟩
  | trip lane => exact ⟨_, rfl, h.request _ _ _ fun _ hu => (hu.reportTrip ..).answer ..⟩
  | arm lane => exact ⟨_, rfl, h.request _ _ _ fun _ hu => hu.arm lane⟩
  | disarm lane => exact ⟨_, rfl, h.request _ _ _ fun _ hu => hu.disarm lane⟩
  | start lane => exact ⟨_, rfl, h.request _ _ _ fun _ hu => hu.start lane⟩
  | inch lane => exact ⟨_, rfl, h.request _ _ _ fun _ hu => hu.inching lane⟩
  | stop lane => exact ⟨_, rfl, h.request _ _ _ fun _ hu => hu.stop lane⟩
  | clearTrip lane => exact ⟨_, rfl, h.request _ _ _ fun _ hu => hu.clearTrip lane⟩
  | setLimits lane plant ceilA ceilB derate inchCeiling rampStep =>
    exact ⟨_, rfl, h.request _ _ _ fun _ hu => hu.setLimits ..⟩
  | setGains lane kp ki feedforward uMin uMax => exact ⟨_, rfl, h.request _ _ _ fun _ hu => hu.setGains ..⟩
  | setShare lane lead offset => exact ⟨_, rfl, h.request _ _ _ fun _ hu => hu.setShare ..⟩
  | setWatch lane oc q decay imbalance shift persistence zeroBand zeroSpeed stopTimeout silenceCode =>
    exact ⟨_, rfl, h.request _ _ _ fun _ hu => hu.setWatch ..⟩
  | setChannel lane channel enabled group alert danger hysteresis tripOnLoss =>
    exact ⟨_, rfl, h.request _ _ _ fun _ hu => hu.setChannel ..⟩
  | setChain lane rate window na nd nc =>
    exact ⟨_, rfl, h.request _ _ _ fun _ hu => hu.frame (by simp [State.setChain])⟩
  | discover lane count => exact ⟨_, rfl, h.request _ _ _ fun _ hu => hu.discover lane count⟩
  | release lane slot => exact ⟨_, rfl, h.request _ _ _ fun _ hu => hu.release lane slot⟩
  | setTime lane time => exact ⟨_, rfl, h.request _ _ _ fun _ hu => hu.frame⟩
  | clearCapture lane => exact ⟨_, rfl, h.request _ _ _ fun _ hu => hu.frame⟩
  | clearCauses lane => exact ⟨_, rfl, h.request _ _ _ fun _ hu => hu.frame⟩
  | reset lane straps => exact ⟨_, rfl, h.request _ _ _ fun _ hu => hu.plantReset lane straps⟩
  | powerOn straps pinLow => exact ⟨_, rfl, h.powerUp straps pinLow⟩
  | resetPin => exact ⟨_, rfl, h.pinReset⟩
  | resetPinRelease straps => exact ⟨_, rfl, h.pinRelease straps⟩
  | initialisationEnd => exact ⟨_, rfl, h.endInitialisation⟩
  | timeCountAdvance => exact ⟨_, rfl, h.advanceTime⟩
  | rampTick => exact ⟨_, rfl, h.rampTick⟩
  | silenceTimerExpiry pinion => exact ⟨_, rfl, h.silenceExpires pinion⟩
  | stopTimerExpiry => exact ⟨_, rfl, h.stopExpires⟩
  | postTripTimerExpiry => exact ⟨_, rfl, h.postTripExpires⟩
  | roundStart => exact ⟨_, rfl, h.roundTimer⟩
  | replyWindowClose position words => exact ⟨_, rfl, h.closeWindow position words⟩
  | computationCompletion => exact ⟨_, rfl, h.computationCompletes⟩
  | levelComputationCompletion channel => exact ⟨_, rfl, h.levelComputationCompletes channel⟩
  | fetchCompletion lane => exact ⟨_, rfl, h.fetchCompletes lane⟩

end RegulationLaws

/-- Settles O53: the queue is no part of the laws, and every command keeps them. -/
theorem regulatorAndRauLawsKept : Obligations.RegulatorAndRauLawsKept := by
  intro s t hregulators hrau h
  unfold step at h
  split at h
  · cases h
    exact ⟨hregulators, hrau⟩
  · rename_i c rest _
    have hlaws : RegulationLaws { s with pending := rest } := ⟨hregulators, hrau⟩
    obtain ⟨u, hu, hkept⟩ := hlaws.exec c
    rw [hu] at h
    cases h
    exact ⟨hkept.regulators, hkept.rau⟩

end Sys2Proof.Machine
end

section
/-! PROOFS. The watch settings. -/

namespace Sys2Proof.Machine

/-! ### Later causes one after another (R17, R142) -/

/-- Causes reported one after another change the slots of the trip table only. -/
theorem Offered.frame {s t : State} {causes : List Cause} (h : Offered s t causes) :
    t = { s with trc := { s.trc with slots := t.trc.slots } } := by
  induction h with
  | nil s => rfl
  | cons s u t cause rest _ heq _ ih =>
    rw [ih, heq]

/-! ### The comparison of both sums with Q (R85) -/

/-- Overloads at Q, reported one after another without a sample. -/
def State.reportOverloads (s : State) (q : Nat) (causes : List Cause) : State :=
  causes.foldl (fun s cause => s.reportTrip cause q q none) s

section
variable (s : State) (q : Nat)

theorem State.reportOverloads_cons (cause : Cause) (causes : List Cause) :
    s.reportOverloads q (cause :: causes) = (s.reportTrip cause q q none).reportOverloads q causes := rfl

theorem State.reportOverloads_append (causes rest : List Cause) :
    s.reportOverloads q (causes ++ rest) = (s.reportOverloads q causes).reportOverloads q rest := List.foldl_append

theorem State.reportOverloads_updDwu (f : DriveWatch → DriveWatch) (causes : List Cause) :
    (s.updDwu f).reportOverloads q causes = (s.reportOverloads q causes).updDwu f :=
  List.foldl_hom (fun s : State => s.updDwu f) fun _ _ => State.reportTrip_updDwu _ _ _ _ _ _

@[simp] theorem State.reportOverloads_dwu (causes : List Cause) : (s.reportOverloads q causes).dwu = s.dwu :=
  (congrArg State.dwu (s.reportOverloads_updDwu q (fun _ => s.dwu) causes) :)

/-- In TRIPPED the reports are later causes. -/
theorem State.reportOverloads_offered (causes : List Cause) (h : s.rc.drive = .tripped) :
    Offered s (s.reportOverloads q causes) causes := by
  induction causes generalizing s with
  | nil => exact .nil s
  | cons cause rest ih =>
    rw [State.reportOverloads_cons, State.reportTrip_of_tripped h]
    obtain ⟨hlater, heq⟩ := s.offerLater_spec cause
    exact .cons s _ _ cause rest hlater heq (ih _ (by rw [State.offerLater_rc, h]))

end

/-- The drive watch with each sum bounded by Q. -/
def DriveWatch.bounded (w : DriveWatch) : DriveWatch :=
  { w with ol := ⟨min w.ol.a w.watch.q, min w.ol.b w.watch.q⟩ }

/-- The causes that the comparison of both sums reports, A before B. -/
def DriveWatch.overloads (w : DriveWatch) : List Cause :=
  (if w.watch.q ≤ w.ol.a then [.overload .a] else []) ++ if w.watch.q ≤ w.ol.b then [.overload .b] else []

section
variable {w : DriveWatch} {first : Cause} {later : List Cause}

theorem DriveWatch.overloads_eq_nil (ha : w.ol.a < w.watch.q) (hb : w.ol.b < w.watch.q) : w.overloads = [] := by
  simp [DriveWatch.overloads, ha, hb]

theorem DriveWatch.overloads_eq_cons
    (ha : w.watch.q ≤ w.ol.a → first = .overload .a ∧ later = if w.watch.q ≤ w.ol.b then [.overload .b] else [])
    (hb : w.ol.a < w.watch.q → first = .overload .b ∧ later = []) (h : w.watch.q ≤ w.ol.a ∨ w.watch.q ≤ w.ol.b) :
    w.overloads = first :: later := by
  by_cases hq : w.watch.q ≤ w.ol.a
  · obtain ⟨rfl, rfl⟩ := ha hq
    simp [DriveWatch.overloads, hq]
  · obtain ⟨rfl, rfl⟩ := hb (by omega)
    simp [DriveWatch.overloads, hq, h.resolve_left hq]

/-- At most one report comes behind the first one, and it is of the other pinion. -/
theorem DriveWatch.overloads_later (h : w.overloads = first :: later) :
    later = [] ∨ (first = .overload .a ∧ later = [.overload .b]) := by
  unfold DriveWatch.overloads at h
  split_ifs at h <;> simp_all

end

section
variable (s : State)

/-- The comparison of one sum: the smaller of the sum and Q stands, and a sum that reaches Q is reported. -/
theorem State.compareOverload_eq (k : Pinion) : s.compareOverload k =
    (s.updDwu fun w => { w with ol := w.ol.set k (min (w.ol.get k) w.watch.q) }).reportOverloads s.dwu.watch.q
      (if s.dwu.watch.q ≤ s.dwu.ol.get k then [.overload k] else []) := by
  unfold State.compareOverload
  split
  · rename_i h
    simp only [State.updDwu, Nat.min_eq_right h]
    rfl
  · rename_i h
    simp only [State.updDwu, Nat.min_eq_left (Nat.le_of_not_le h), Pair.set_get]
    rfl

/-- The comparison of both sums: the sums are bounded first, and the reports come in their order. -/
theorem State.compareOverloads_eq : (s.compareOverload .a).compareOverload .b =
    (s.updDwu DriveWatch.bounded).reportOverloads s.dwu.watch.q s.dwu.overloads := by
  rw [State.compareOverload_eq _ .b, State.compareOverload_dwu, s.compareOverload_eq .a,
    ← State.reportOverloads_updDwu, ← State.reportOverloads_append]
  rfl

/-- The part under new watch settings, with each sum bounded by the new Q (R85, R91). -/
def State.underWatch (w : WatchSettings) : State := s.updDwu fun d => { d with watch := w }.bounded

theorem State.setWatch_eq (lane : Lane) (w : WatchSettings) : s.setWatch lane w =
    ((s.underWatch w).reportOverloads w.q { s.dwu with watch := w }.overloads).answer lane .setWatch .ok
      (w.bytes ++ nat32 (min s.dwu.ol.a w.q) ++ nat32 (min s.dwu.ol.b w.q)) := by
  unfold State.setWatch
  simp only [State.compareOverloads_eq, State.reportOverloads_dwu]
  rfl

end

/-! ### The reports of SET WATCH (R15, R17, R140, R142) -/

/-- A second overload is a later cause of the trip that the first one has entered. -/
theorem TripEntered.reportOverloads {s t : State} {first : Cause} {later : List Cause} {value limit q : Nat}
    {trigger : Option Entry} (h : TripEntered s t first value limit trigger [])
    (hlater : later = [] ∨ (first = .overload .a ∧ later = [.overload .b])) :
    TripEntered s (t.reportOverloads q later) first value limit trigger later := by
  rcases hlater with rfl | ⟨rfl, rfl⟩
  · exact h
  · rw [State.reportOverloads_cons, State.reportTrip_of_tripped (by rw [h.rc])]
    exact h.offerLater (by decide) List.not_mem_nil (by decide)

/-- Outside TRIPPED the first report enters it, and a second one adds to its record only. -/
theorem State.reportOverloads_trips {s : State} {q : Nat} {first : Cause} {later : List Cause}
    (hnodup : (s.rau.entries.map (·.pinion)).Nodup) (hd : s.rc.drive ≠ .tripped)
    (hlater : later = [] ∨ (first = .overload .a ∧ later = [.overload .b])) :
    TripEntered s (s.reportOverloads q (first :: later)) first q q none later ∧
      ∀ j, (s.reportOverloads q (first :: later)).lanes.get j =
        (s.lanes.get j).tripped s (s.reportOverloads q (first :: later)).trc.current := by
  obtain ⟨hentry, hlanes⟩ := s.enterTrip_spec none (by exact hnodup) first q q
  have hframe := (State.reportOverloads_offered (s.enterTrip first q q none) q later (by rw [hentry.rc])).frame
  rw [State.reportOverloads_cons, State.reportTrip_of_ne_tripped hd]
  refine ⟨hentry.reportOverloads hlater, ?_⟩
  rw [hframe]
  exact hlanes

/-- Settles O31: the settings and the bounded sums are written, and then the sums that reach Q are reported: the first
report enters TRIPPED, and a report in TRIPPED is a later cause. -/
theorem setWatchStoresAndCompares : Obligations.SetWatchStoresAndCompares := by
  intro s lane oc q dec imb sh per zb zs st sc hlaw h
  generalize hp : watchPayload oc q dec imb sh per zb zs st sc = payload
  obtain ⟨w, hw⟩ : ∃ w, w = watchOf oc q dec imb sh per zb zs st sc := ⟨_, rfl⟩
  obtain ⟨v, hv⟩ : ∃ v, v = (s.closeSelection lane (requestFrame .setWatch payload)).underWatch w := ⟨_, rfl⟩
  have hrun : exec (.setWatch lane oc q dec imb sh per zb zs st sc) s =
      .next ((v.reportOverloads w.q { s.dwu with watch := w }.overloads).answer lane .setWatch .ok
        (w.bytes ++ nat32 (min s.dwu.ol.a w.q) ++ nat32 (min s.dwu.ol.b w.q))) := by
    rw [hv, hw, ← hp]
    exact exec_eq_of_takes rfl h (State.setWatch_eq ..)
  refine ⟨w, s.underWatch w, _, _, hw, rfl, rfl, hrun, fun ha hb => ?calm, fun first later ha hb hreached => ?reported⟩
  case calm =>
    rw [DriveWatch.overloads_eq_nil ha hb, hv]
    exact ⟨rfl, answered_of_quiet rfl .ok _⟩
  case reported =>
    have hcauses := DriveWatch.overloads_eq_cons (w := { s.dwu with watch := w }) ha hb hreached
    rw [hcauses]
    refine ⟨fun hd => ?enters, fun hd => ?offers⟩
    case enters =>
      obtain ⟨hentry, hlanes⟩ := State.reportOverloads_trips (s := v) (q := w.q)
        (by rw [hv]; exact hlaw.entries_nodup) (by rw [hv]; exact hd) (DriveWatch.overloads_later hcauses)
      generalize v.reportOverloads w.q (first :: later) = t at hentry hlanes
      refine ⟨hentry.transfer (by rw [hv]; rfl) (by rw [hv]; rfl) rfl, fun j => ?_⟩
      have hj := answer_lanes_of_update (s := s) (kind := .setWatch) (status := .ok)
        (reply := w.bytes ++ nat32 (min s.dwu.ol.a w.q) ++ nat32 (min s.dwu.ol.b w.q))
        (update := fun l => l.tripped v t.trc.current) (fun _ => rfl) (fun i => by rw [hlanes, hv]; rfl) j
      rw [hentry.rc, hv] at hj
      exact hj
    case offers =>
      have hoffered := v.reportOverloads_offered w.q (first :: later) (by rw [hv]; exact hd)
      have hframe := hoffered.frame
      generalize v.reportOverloads w.q (first :: later) = t at hoffered hframe
      have hdrive : t.rc.drive = .tripped := by rw [hframe, hv]; exact hd
      refine ⟨{ t with lanes := s.lanes }, ?_, rfl, ?_⟩
      · rw [hv] at hoffered
        exact hoffered.withLanes s.lanes
      · rw [← hdrive]
        exact answered_of_quiet (by rw [hframe, hv]; rfl) .ok _

end Sys2Proof.Machine
end

section
/-! PROOFS. The drive watch through the resets and the initialisation. -/

namespace Sys2Proof.Machine

section
variable (s : State)

/-! ### Events that leave the drive watch unit as it was

The part's own events reach the drive watch unit by the reports they make, and a report leaves it as it was (R15). -/

@[simp] theorem State.noteMove_dwu (c : Channel) (before : ChannelState) : (s.noteMove c before).dwu = s.dwu := by
  unfold State.noteMove
  split
  · rfl
  · simp [State.channelMoved]

@[simp] theorem State.nodeLost_dwu (c : Channel) : (s.nodeLost c).dwu = s.dwu := by
  unfold State.nodeLost
  dsimp only
  split <;> simp

@[simp] theorem State.handOver_dwu (c : Channel) (x : Option Int) : (s.handOver c x).dwu = s.dwu := by
  unfold State.handOver
  split <;> rfl

@[simp] theorem State.levelCompletes_dwu (c : Channel) (l : LevelComputation) : (s.levelCompletes c l).dwu = s.dwu := by
  unfold State.levelCompletes
  dsimp only
  split <;> simp

@[simp] theorem State.closePolled_dwu (c : Fin 8) (words : List ChainWord) : (s.closePolled c words).dwu = s.dwu := by
  unfold State.closePolled
  dsimp only
  split
  · split <;> simp
  · rfl

@[simp] theorem State.lockPosition_dwu (d : Discovery) (c : Fin 8) (w : ChainWord) :
    (s.lockPosition d c w).dwu = s.dwu := by
  unfold State.lockPosition
  dsimp only
  split <;> rfl

@[simp] theorem State.missSearch_dwu (d : Discovery) (c : Fin 8) (rounds : Nat) :
    (s.missSearch d c rounds).dwu = s.dwu := by
  unfold State.missSearch
  split <;> rfl

@[simp] theorem State.closeSearch_dwu (c : Fin 8) (words : List ChainWord) : (s.closeSearch c words).dwu = s.dwu := by
  unfold State.closeSearch
  split
  · rfl
  · split
    · rfl
    · split
      · split <;> simp
      · rfl

@[simp] theorem State.closeWindow_dwu (c : Fin 8) (words : List ChainWord) : (s.closeWindow c words).dwu = s.dwu := by
  unfold State.closeWindow
  split
  · rfl
  · dsimp only
    split
    · simp
    · split <;> simp

@[simp] theorem State.roundTimer_dwu : s.roundTimer.dwu = s.dwu := by
  unfold State.roundTimer
  split <;> rfl

@[simp] theorem State.computationCompletes_dwu : s.computationCompletes.dwu = s.dwu := by
  unfold State.computationCompletes
  split <;> simp

@[simp] theorem State.levelComputationCompletes_dwu (channel : Channel) :
    (s.levelComputationCompletes channel).dwu = s.dwu := by
  unfold State.levelComputationCompletes
  split <;> simp

@[simp] theorem State.fetchCompletes_dwu (lane : Lane) : (s.fetchCompletes lane).dwu = s.dwu := by
  unfold State.fetchCompletes
  split
  · split <;> rfl
  all_goals rfl

@[simp] theorem State.advanceTime_dwu : s.advanceTime.dwu = s.dwu := by
  unfold State.advanceTime
  split <;> rfl

@[simp] theorem State.silenceExpires_dwu (k : Pinion) : (s.silenceExpires k).dwu = s.dwu := by
  unfold State.silenceExpires
  split
  · rfl
  · dsimp only
    split <;> simp

@[simp] theorem State.stopExpires_dwu : s.stopExpires.dwu = s.dwu := by
  unfold State.stopExpires
  split
  · rfl
  · dsimp only
    split <;> simp

@[simp] theorem State.postTripExpires_dwu : s.postTripExpires.dwu = s.dwu := by
  unfold State.postTripExpires
  split
  · split <;> simp
  · rfl

@[simp] theorem State.pinRelease_dwu (straps : Straps) : (s.pinRelease straps).dwu = s.dwu := by
  unfold State.pinRelease
  split <;> rfl

@[simp] theorem State.endInitialisation_dwu : s.endInitialisation.dwu = s.dwu := by
  unfold State.endInitialisation
  split <;> rfl

@[simp] theorem State.endBadFrame_dwu (lane : Lane) (bytes : List Byte) : (s.endBadFrame lane bytes).dwu = s.dwu := by
  unfold State.endBadFrame
  split
  · rfl
  · dsimp only
    split <;> simp [State.answerBadFrame]

@[simp] theorem State.endPending_dwu (lane : Lane) (bytes : List Byte) : (s.endPending lane bytes).dwu = s.dwu := by
  unfold State.endPending
  dsimp only
  split <;> simp

/-! ### The resets (R94, R174 to R176) -/

theorem State.powerUp_dwu (straps : Straps) (pinLow : Bool) : (s.powerUp straps pinLow).dwu = .reset := by
  unfold State.powerUp
  split <;> rfl

theorem State.pinReset_dwu : s.pinReset.dwu = if s.tbu.phase = .held then s.dwu else .reset := by
  unfold State.pinReset
  split
  · rw [if_pos ‹_›]
  all_goals rw [if_neg (by rw [‹s.tbu.phase = _›]; decide)]; rfl

theorem State.plantReset_dwu (h : s.rc.drive = .halt ∨ s.rc.drive = .tripped) (lane : Lane) (straps : Straps) :
    (s.plantReset lane straps).dwu = .reset := by
  unfold State.plantReset
  rw [if_pos h]
  rfl

/-- The ramp tick decays sums that are already 0 (R84). -/
theorem State.rampTick_dwu_of_reset (h : s.dwu = .reset) : s.rampTick.dwu = .reset := by
  unfold State.rampTick
  split
  · simp only [State.updDwu_dwu, State.rampPinion_dwu, h]
    rfl
  · exact h

end

/-! ### Requests before the part works (R162, R164, R176, R177) -/

section
variable {s : State}

/-- While the reset pin holds the part, no selection takes a request, one that its own end starts included. -/
theorem RauLaw.openSelection_ne_holder {lane : Lane} (h : RauLaw s) (hp : s.tbu.phase = .held) :
    ((s.openSelection lane).lanes.get lane).selection ≠ .holder := by
  obtain ⟨-, -, -, -, hheld⟩ := h
  by_cases hnone : (s.lanes.get lane).selection = .none
  · rw [State.openSelection, if_pos hnone, State.startSelection_selection, if_pos rfl]
    exact fun hkind => (State.selectionKind_holder hkind).1 hp
  · rw [s.openSelection_of_ne lane hnone]
    exact (hheld hp).2 lane

/-- Before the part works a request changes the drive watch unit only by a block that the initialisation serves. -/
theorem RauLaw.request_dwu {lane : Lane} {kind : RequestKind} {payload : List Byte} {body : State → State}
    (h : RauLaw s) (hp : s.tbu.phase ≠ .working) (hbody : kind.servedInInit = true → ∀ u, (body u).dwu = u.dwu) :
    (s.request lane kind payload body).dwu = s.dwu := by
  unfold State.request State.judge
  dsimp only
  split
  case isFalse => simp
  case isTrue hholder =>
    have hinit : s.tbu.phase = .initialising := by
      cases hphase : s.tbu.phase
      case held => exact absurd hholder (h.openSelection_ne_holder hphase)
      case initialising => rfl
      case working => exact absurd hphase hp
    split
    · simp
    · split
      · simp
      · rename_i hserved _
        rw [hbody (by simpa [hinit] using hserved)]
        simp

end

/-! ### Every command before the part works (R94) -/

theorem exec_keeps_reset_dwu {s : State} (hlaw : RauLaw s) (hp : s.tbu.phase ≠ .working) (h : s.dwu = .reset)
    (c : Instr) : ∃ t, exec c s = .next t ∧ t.dwu = .reset := by
  cases c with
  | selectionStart lane => exact ⟨_, rfl, (s.startSelection_dwu lane).trans h⟩
  | badFrame lane bytes => exact ⟨_, rfl, (s.endBadFrame_dwu lane bytes).trans h⟩
  | pendingSelection lane bytes => exact ⟨_, rfl, (s.endPending_dwu lane bytes).trans h⟩
  | readStatus | readIdent =>
    refine ⟨_, rfl, (hlaw.request_dwu hp ?_).trans h⟩
    exact fun _ _ => rfl
  | nop | readLimits | readChannel | readNode | readTripSummary | setCursor | readNext | ackNotice | setMask | sample
  | ackTrip | trip | arm | disarm | start | inch | stop | clearTrip | setLimits | setGains | setShare | setWatch
  | setChannel | setChain | discover | release | setTime | clearCapture | clearCauses | reset =>
    refine ⟨_, rfl, (hlaw.request_dwu hp ?_).trans h⟩
    exact fun hserved => Bool.noConfusion hserved
  | powerOn straps pinLow => exact ⟨_, rfl, s.powerUp_dwu straps pinLow⟩
  | resetPin => exact ⟨_, rfl, by rw [State.pinReset_dwu, h, ite_self]⟩
  | resetPinRelease straps => exact ⟨_, rfl, (s.pinRelease_dwu straps).trans h⟩
  | initialisationEnd => exact ⟨_, rfl, s.endInitialisation_dwu.trans h⟩
  | timeCountAdvance => exact ⟨_, rfl, s.advanceTime_dwu.trans h⟩
  | rampTick => exact ⟨_, rfl, s.rampTick_dwu_of_reset h⟩
  | silenceTimerExpiry pinion => exact ⟨_, rfl, (s.silenceExpires_dwu pinion).trans h⟩
  | stopTimerExpiry => exact ⟨_, rfl, s.stopExpires_dwu.trans h⟩
  | postTripTimerExpiry => exact ⟨_, rfl, s.postTripExpires_dwu.trans h⟩
  | roundStart => exact ⟨_, rfl, s.roundTimer_dwu.trans h⟩
  | replyWindowClose position words => exact ⟨_, rfl, (s.closeWindow_dwu position words).trans h⟩
  | computationCompletion => exact ⟨_, rfl, s.computationCompletes_dwu.trans h⟩
  | levelComputationCompletion channel => exact ⟨_, rfl, (s.levelComputationCompletes_dwu channel).trans h⟩
  | fetchCompletion lane => exact ⟨_, rfl, (s.fetchCompletes_dwu lane).trans h⟩

/-- Settles O58: each reset writes the reset values, and no command reaches the drive watch before the part works but
the resets and the decay of sums at 0. -/
theorem driveWatchAfterEveryReset : Obligations.DriveWatchAfterEveryReset := by
  intro w hw
  obtain rfl : w = .reset := hw
  refine ⟨fun s straps pinLow => ⟨_, rfl, s.powerUp_dwu straps pinLow⟩,
    fun s h => ⟨_, rfl, s.pinReset_dwu.trans (if_neg h)⟩,
    fun s lane straps h hd => ⟨_, exec_of_takes rfl h, State.plantReset_dwu _ (by exact hd) lane straps⟩, rfl,
    fun c s t hlaw hp h ht => ?_⟩
  obtain ⟨u, hu, hreset⟩ := exec_keeps_reset_dwu hlaw hp h c
  rw [hu] at ht
  cases ht
  exact hreset

end Sys2Proof.Machine
end

section
/-! PROOFS. Which commands reach the sensor chain controller: every other command leaves it as it was. -/

namespace Sys2Proof.Machine

section
variable (s : State)

/-! ### Reports and the leaving of regulation (R9, R15, R17) -/

theorem foldl_scc {α : Type} {f : State → α → State} (hf : ∀ u x, (f u x).scc = u.scc) (l : List α) :
    (l.foldl f s).scc = s.scc := by
  induction l generalizing s with
  | nil => rfl
  | cons x l ih => rw [List.foldl_cons, ih, hf]

@[simp] theorem State.foldl_abandonAtTrip_scc (l : List Entry) : (l.foldl State.abandonAtTrip s).scc = s.scc :=
  foldl_scc s State.abandonAtTrip_scc l

@[simp] theorem State.foldl_abandonAtStop_scc (l : List Entry) : (l.foldl State.abandonAtStop s).scc = s.scc :=
  foldl_scc s State.abandonAtStop_scc l

@[simp] theorem State.foldl_replyAbandoned_scc (trip : Bool) (l : List Entry) :
    (l.foldl (State.replyAbandoned trip) s).scc = s.scc :=
  foldl_scc (f := State.replyAbandoned trip) s (fun _ _ => rfl) l

@[simp] theorem State.enterTrip_scc (cause : Cause) (value limit : Nat) (trigger : Option Entry) :
    (s.enterTrip cause value limit trigger).scc = s.scc := by
  simp [State.enterTrip]

@[simp] theorem State.reportTrip_scc (cause : Cause) (value limit : Nat) (trigger : Option Entry) :
    (s.reportTrip cause value limit trigger).scc = s.scc := by
  unfold State.reportTrip
  split <;> simp

@[simp] theorem State.endStop_scc : s.endStop.scc = s.scc := by
  simp [State.endStop]

/-! ### Arrivals (R7, R10, R13, R26, R64, R77, R80) -/

@[simp] theorem State.checkFault_scc (e : Entry) (fault : Bool) : (s.checkFault e fault).scc = s.scc := by
  unfold State.checkFault
  split <;> simp

@[simp] theorem State.checkReady_scc (e : Entry) (ready : Bool) : (s.checkReady e ready).scc = s.scc := by
  unfold State.checkReady
  split <;> simp

@[simp] theorem State.checkOvercurrent_scc (e : Entry) : (s.checkOvercurrent e).scc = s.scc := by
  unfold State.checkOvercurrent
  split <;> simp

@[simp] theorem State.checkOverload_scc (e : Entry) : (s.checkOverload e).scc = s.scc := by
  unfold State.checkOverload
  dsimp only
  split
  · split <;> simp
  · rfl

@[simp] theorem State.checkImbalance_scc (e : Entry) : (s.checkImbalance e).scc = s.scc := by
  unfold State.checkImbalance
  dsimp only
  split
  · split <;> simp
  · rfl

@[simp] theorem State.zeroSpeedTest_scc : s.zeroSpeedTest.scc = s.scc := by
  unfold State.zeroSpeedTest
  split <;> simp

@[simp] theorem State.takeDemand_scc (k : Pinion) (demand : Option Word16) : (s.takeDemand k demand).scc = s.scc := by
  unfold State.takeDemand
  split
  · split <;> simp
  · rfl

@[simp] theorem State.answerAtRest_scc (lane : Lane) (e : Entry) (tripped : Bool) :
    (s.answerAtRest lane e tripped).scc = s.scc := by
  cases tripped <;> simp [State.answerAtRest]

@[simp] theorem State.regulate_scc (lane : Lane) (e : Entry) (tripped : Bool) :
    (s.regulate lane e tripped).scc = s.scc := by
  unfold State.regulate
  split <;> simp

@[simp] theorem State.takeSample_scc (lane : Lane) (iMeas n : Word16) (counter bridge : Byte) (demand : Option Word16) :
    (s.takeSample lane iMeas n counter bridge demand).scc = s.scc := by
  unfold State.takeSample
  split
  · simp [State.sampleArrives, State.checkSample, State.arrive]
  · rfl

/-! ### The requests of run control (R3 to R6, R19, R20) -/

@[simp] theorem State.ackTrip_scc (lane : Lane) : (s.ackTrip lane).scc = s.scc := by
  unfold State.ackTrip
  split
  · split <;> simp
  · simp

@[simp] theorem State.arm_scc (lane : Lane) : (s.arm lane).scc = s.scc := by
  unfold State.arm
  (repeat' split) <;> simp

@[simp] theorem State.disarm_scc (lane : Lane) : (s.disarm lane).scc = s.scc := by
  unfold State.disarm
  split <;> simp

@[simp] theorem State.start_scc (lane : Lane) : (s.start lane).scc = s.scc := by
  unfold State.start
  split <;> simp

@[simp] theorem State.inching_scc (lane : Lane) : (s.inching lane).scc = s.scc := by
  unfold State.inching
  split <;> simp

@[simp] theorem State.stop_scc (lane : Lane) : (s.stop lane).scc = s.scc := by
  unfold State.stop
  split <;> simp [State.startStopTimer]

@[simp] theorem State.clearTrip_scc (lane : Lane) : (s.clearTrip lane).scc = s.scc := by
  unfold State.clearTrip
  split <;> simp

/-! ### Settings and channels (R53, R59, R85, R117, R118, R124 to R130) -/

@[simp] theorem State.setLimits_scc (lane : Lane) (plant ceilA ceilB derate inchCeiling rampStep : Word16) :
    (s.setLimits lane plant ceilA ceilB derate inchCeiling rampStep).scc = s.scc := by
  unfold State.setLimits
  split <;> simp

@[simp] theorem State.setGains_scc (lane : Lane) (kp ki : Word16) (feedforward : Byte) (uMin uMax : Word16) :
    (s.setGains lane kp ki feedforward uMin uMax).scc = s.scc := by
  unfold State.setGains
  split <;> simp

@[simp] theorem State.compareOverload_scc (k : Pinion) : (s.compareOverload k).scc = s.scc := by
  unfold State.compareOverload
  split <;> simp

@[simp] theorem State.setWatch_scc (lane : Lane) (w : WatchSettings) : (s.setWatch lane w).scc = s.scc := by
  simp [State.setWatch]

@[simp] theorem State.channelMoved_scc : s.channelMoved.scc = s.scc := by simp [State.channelMoved]

@[simp] theorem State.noteMove_scc (c : Channel) (before : ChannelState) : (s.noteMove c before).scc = s.scc := by
  unfold State.noteMove
  split <;> simp

@[simp] theorem State.setChannel_scc (lane : Lane) (i : Channel) (g : ChannelConfig) :
    (s.setChannel lane i g).scc = s.scc := by
  unfold State.setChannel
  split <;> simp

@[simp] theorem State.nodeLost_scc (c : Channel) : (s.nodeLost c).scc = s.scc := by
  unfold State.nodeLost
  dsimp only
  split <;> simp

@[simp] theorem State.handOver_scc (c : Channel) (x : Option Int) : (s.handOver c x).scc = s.scc := by
  unfold State.handOver
  split <;> rfl

@[simp] theorem State.forgetChannels_scc : s.forgetChannels.scc = s.scc := by
  unfold State.forgetChannels
  dsimp only
  split <;> simp

@[simp] theorem State.levelComputationCompletes_scc (channel : Channel) :
    (s.levelComputationCompletes channel).scc = s.scc := by
  unfold State.levelComputationCompletes State.levelCompletes
  dsimp only
  split
  · split <;> simp
  · rfl

@[simp] theorem State.computationCompletes_scc : s.computationCompletes.scc = s.scc := by
  unfold State.computationCompletes
  split <;> simp

/-! ### Lanes, cursors and the trip table (R145, R146, R151 to R154, R161, R162, R167) -/

@[simp] theorem State.readSummary_scc (lane : Lane) (slot : Byte) (page : Option Byte) :
    (s.readSummary lane slot page).scc = s.scc := by
  unfold State.readSummary State.markRead
  dsimp only
  split
  · split
    · simp
    · split <;> simp
  · split <;> simp

@[simp] theorem State.release_scc (lane : Lane) (slot : Byte) : (s.release lane slot).scc = s.scc := by
  unfold State.release
  split <;> split <;> simp

@[simp] theorem State.setCursor_scc (lane : Lane) (slot pinion index direction : Byte) :
    (s.setCursor lane slot pinion index direction).scc = s.scc := by
  unfold State.setCursor
  split
  · simp
  · dsimp only
    split <;> rfl

@[simp] theorem State.readNext_scc (lane : Lane) : (s.readNext lane).scc = s.scc := by
  unfold State.readNext
  split <;> rfl

@[simp] theorem State.fetchCompletes_scc (lane : Lane) : (s.fetchCompletes lane).scc = s.scc := by
  unfold State.fetchCompletes
  split
  · split <;> rfl
  all_goals rfl

@[simp] theorem State.ackNotice_scc (lane : Lane) (kind : Byte) : (s.ackNotice lane kind).scc = s.scc := by
  unfold State.ackNotice
  dsimp only
  split <;> rfl

@[simp] theorem State.endBadFrame_scc (lane : Lane) (bytes : List Byte) : (s.endBadFrame lane bytes).scc = s.scc := by
  unfold State.endBadFrame
  split
  · rfl
  · dsimp only
    split <;> simp [State.answerBadFrame]

@[simp] theorem State.endPending_scc (lane : Lane) (bytes : List Byte) : (s.endPending lane bytes).scc = s.scc := by
  unfold State.endPending
  dsimp only
  split <;> simp

/-! ### Timers and the initialisation (R8, R12, R45, R84, R144, R172, R176) -/

@[simp] theorem State.advanceTime_scc : s.advanceTime.scc = s.scc := by
  unfold State.advanceTime
  split <;> rfl

@[simp] theorem State.rampTick_scc : s.rampTick.scc = s.scc := by
  unfold State.rampTick
  split <;> simp

@[simp] theorem State.silenceExpires_scc (k : Pinion) : (s.silenceExpires k).scc = s.scc := by
  unfold State.silenceExpires
  split
  · rfl
  · dsimp only
    split <;> simp

@[simp] theorem State.stopExpires_scc : s.stopExpires.scc = s.scc := by
  unfold State.stopExpires
  split
  · rfl
  · dsimp only
    split <;> simp

@[simp] theorem State.postTripExpires_scc : s.postTripExpires.scc = s.scc := by
  unfold State.postTripExpires
  split
  · split <;> simp
  · rfl

@[simp] theorem State.pinRelease_scc (straps : Straps) : (s.pinRelease straps).scc = s.scc := by
  unfold State.pinRelease
  split <;> rfl

@[simp] theorem State.endInitialisation_scc : s.endInitialisation.scc = s.scc := by
  unfold State.endInitialisation
  split <;> rfl

/-! ### Requests (R161 to R163, R165) -/

/-- A request runs its block or does not, on a state whose chain is the one it met. -/
theorem State.request_cases (lane : Lane) (kind : RequestKind) (payload : List Byte) (body : State → State) :
    ∃ u, u.scc = s.scc ∧
      (s.request lane kind payload body = u ∨ s.request lane kind payload body = body u) := by
  unfold State.request State.judge
  dsimp only
  split
  · split
    · exact ⟨_, by simp, .inl rfl⟩
    · split
      · exact ⟨_, by simp, .inl rfl⟩
      · exact ⟨_, by simp, .inr rfl⟩
  · exact ⟨_, by simp, .inl rfl⟩

theorem State.request_scc {lane : Lane} {kind : RequestKind} {payload : List Byte} {body : State → State}
    (h : ∀ u, (body u).scc = u.scc) : (s.request lane kind payload body).scc = s.scc := by
  obtain ⟨u, hu, heq | heq⟩ := s.request_cases lane kind payload body
  · rw [heq, hu]
  · rw [heq, h, hu]

end

/-! ### Every command -/

/-- The commands that reach the sensor chain controller: its two events, the requests that set it, and the resets
(R95, R97, R108, R113, R115). -/
def reachesChain : Instr → Bool
  | .roundStart | .replyWindowClose _ _ | .setChain _ _ _ _ _ _ | .discover _ _ | .reset _ _ | .powerOn _ _
  | .resetPin => true
  | _ => false

/-- No other command changes anything of the chain. -/
theorem exec_scc (s : State) {c : Instr} (hc : reachesChain c = false) : ∃ t, exec c s = .next t ∧ t.scc = s.scc := by
  cases c with
  | roundStart | replyWindowClose | setChain | discover | reset | powerOn | resetPin => cases hc
  | nop | readStatus | readIdent | readLimits | readChannel | readNode | setMask | setShare | setTime | clearCapture
  | clearCauses => exact ⟨_, rfl, s.request_scc fun _ => rfl⟩
  | readTripSummary | setCursor | readNext | ackNotice | sample | ackTrip | trip | arm | disarm | start | inch | stop
  | clearTrip | setLimits | setGains | setWatch | setChannel | release =>
    exact ⟨_, rfl, s.request_scc fun _ => by simp⟩
  | selectionStart lane => exact ⟨_, rfl, s.startSelection_scc lane⟩
  | badFrame lane bytes => exact ⟨_, rfl, s.endBadFrame_scc lane bytes⟩
  | pendingSelection lane bytes => exact ⟨_, rfl, s.endPending_scc lane bytes⟩
  | resetPinRelease straps => exact ⟨_, rfl, s.pinRelease_scc straps⟩
  | initialisationEnd => exact ⟨_, rfl, s.endInitialisation_scc⟩
  | timeCountAdvance => exact ⟨_, rfl, s.advanceTime_scc⟩
  | rampTick => exact ⟨_, rfl, s.rampTick_scc⟩
  | silenceTimerExpiry pinion => exact ⟨_, rfl, s.silenceExpires_scc pinion⟩
  | stopTimerExpiry => exact ⟨_, rfl, s.stopExpires_scc⟩
  | postTripTimerExpiry => exact ⟨_, rfl, s.postTripExpires_scc⟩
  | computationCompletion => exact ⟨_, rfl, s.computationCompletes_scc⟩
  | levelComputationCompletion channel => exact ⟨_, rfl, s.levelComputationCompletes_scc channel⟩
  | fetchCompletion lane => exact ⟨_, rfl, s.fetchCompletes_scc lane⟩

end Sys2Proof.Machine
end

section
/-! PROOFS. The laws of the node table, of a running discovery and of its search rounds. -/

namespace Sys2Proof.Machine

/-! ### What the laws look at -/

section
variable {s t : State}

/-- The laws of the chain look at nothing but the chain (R101 to R104, R106, R108 to R111, R114). -/
theorem ChainLaw.congr (h : ChainLaw s) (hnodes : t.scc.nodes = s.scc.nodes) (hdisc : t.scc.discovery = s.scc.discovery)
    (hresult : t.scc.lastResult = s.scc.lastResult) : ChainLaw t := by
  unfold ChainLaw DiscoveryLaw at h ⊢
  rw [hnodes, hdisc, hresult]
  exact h

theorem ChainLaw.of_scc (h : ChainLaw s) (hscc : t.scc = s.scc) : ChainLaw t :=
  h.congr (by rw [hscc]) (by rw [hscc]) (by rw [hscc])

theorem SearchLaw.congr (h : SearchLaw s) (hdisc : t.scc.discovery = s.scc.discovery)
    (hround : t.scc.round = s.scc.round) : SearchLaw t := by
  unfold SearchLaw at h ⊢
  rw [hdisc, hround]
  exact h

/-- Where no position is searched for, the search is within its rounds. -/
theorem SearchLaw.of_no_search (h : ∀ count n rounds found, t.scc.discovery ≠ some ⟨count, .search n rounds, found⟩) :
    SearchLaw t := fun _ _ _ _ hdisc => (h _ _ _ _ hdisc).elim

/-! ### Where a discovery stands (R106, R109, R110) -/

theorem discoveryLaw_none (h : s.scc.discovery = none) :
    DiscoveryLaw s ↔ ∀ c, (s.scc.nodes.get c).state ≠ .searching := by
  simp only [DiscoveryLaw, h]

theorem discoveryLaw_clear {count found : Nat} {sent : Bool} (h : s.scc.discovery = some ⟨count, .clear sent, found⟩) :
    DiscoveryLaw s ↔ (1 ≤ count ∧ count ≤ 8) ∧ found = 0 ∧ ∀ c, (s.scc.nodes.get c).state = .absent := by
  simp only [DiscoveryLaw, h]

theorem discoveryLaw_search {count rounds found : Nat} {n : Fin 8}
    (h : s.scc.discovery = some ⟨count, .search n rounds, found⟩) :
    DiscoveryLaw s ↔ (1 ≤ count ∧ count ≤ 8) ∧ n.val < count ∧ found = n.val ∧
      (s.scc.nodes.get n).state = (if rounds = 0 then .absent else .searching) ∧
      ∀ c, (c < n → (s.scc.nodes.get c).state = .locked ∨ (s.scc.nodes.get c).state = .lost) ∧
        (n < c → (s.scc.nodes.get c).state = .absent) := by
  simp only [DiscoveryLaw, h]

end

/-! ### Single entries (R101, R102, R104, R110) -/

section
variable {c : Fin 8} {e : NodeEntry}

/-- An entry with another state, neither of both LOST. -/
theorem EntryLaw.withState (h : EntryLaw c e) (hlost : e.state ≠ .lost) {x : NodeState} (hx : x ≠ .lost) :
    EntryLaw c { e with state := x } := by
  obtain ⟨hexpected, hmiss, hiff, hcounts⟩ := h
  exact ⟨hexpected, hmiss, iff_of_false (fun h16 => hlost (hiff.mp h16)) hx, hcounts⟩

/-- A failed round of an entry that is not LOST (R104). -/
theorem EntryLaw.failed (h : EntryLaw c e) (hlost : e.state ≠ .lost) : EntryLaw c e.failed := by
  obtain ⟨hexpected, hmiss, hiff, hcounts⟩ := h
  refine ⟨hexpected, Nat.min_le_right .., ?_, hcounts⟩
  unfold NodeEntry.failed
  dsimp only
  split
  · exact iff_of_true (by omega) rfl
  · exact iff_of_false (by omega) hlost

/-- The tracking bounds are those of the reply window, so a step towards a word in the window keeps them (R101). -/
theorem EntryLaw.heard (h : EntryLaw c e) (hlost : e.state ≠ .lost) {words : List ChainWord} {e' : NodeEntry}
    {x : Option Int} (hheard : Heard e c words e' x) : EntryLaw c e' := by
  obtain ⟨hexpected, hmiss, hiff, hparity, hmisalign⟩ := h
  cases hheard with
  | good w x hfirst hlo hhi hpass hx =>
    exact ⟨hexpected, Nat.zero_le _, iff_of_false (by simp) hlost, hparity, hmisalign⟩
  | bad w hfirst hlo hhi hpass =>
    have hcounted : EntryLaw c { e with parity := min (e.parity + 1) 65535 } :=
      ⟨hexpected, hmiss, hiff, Nat.min_le_right .., hmisalign⟩
    exact hcounted.failed hlost
  | early w hfirst hearly =>
    obtain ⟨_, _, _, ⟨hwlo, hwhi⟩, _⟩ := hfirst
    have htracked : EntryLaw c { e with expected := e.expected - 1, misalign := min (e.misalign + 1) 65535 } :=
      ⟨⟨by dsimp only; omega, by dsimp only; omega⟩, hmiss, hiff, hparity, Nat.min_le_right ..⟩
    exact htracked.failed hlost
  | late w hfirst hlate =>
    obtain ⟨_, _, _, ⟨hwlo, hwhi⟩, _⟩ := hfirst
    have htracked : EntryLaw c { e with expected := e.expected + 1, misalign := min (e.misalign + 1) 65535 } :=
      ⟨⟨by dsimp only; omega, by dsimp only; omega⟩, hmiss, hiff, hparity, Nat.min_le_right ..⟩
    exact htracked.failed hlost
  | silent hnone => exact EntryLaw.failed ⟨hexpected, hmiss, hiff, hparity, hmisalign⟩ hlost

/-- A polled entry stays LOCKED, or is LOST (R104). -/
theorem Heard.state {words : List ChainWord} {e' : NodeEntry} {x : Option Int} (h : Heard e c words e' x) :
    e'.state = e.state ∨ e'.state = .lost := by
  have hfailed : ∀ e : NodeEntry, e.failed.state = e.state ∨ e.failed.state = .lost := fun e => by
    unfold NodeEntry.failed
    dsimp only
    split
    · exact .inr rfl
    · exact .inl rfl
  cases h with
  | good => exact .inl rfl
  | bad | early | late | silent => exact hfailed _

end

theorem EntryLaw.reset (c : Fin 8) : EntryLaw c (.reset c) := by
  refine ⟨?_, Nat.zero_le _, iff_of_false (by simp [NodeEntry.reset]) (by simp [NodeEntry.reset]), Nat.zero_le _, Nat.zero_le _⟩
  dsimp only [NodeEntry.reset, Config.nominal]
  omega

theorem resetTable_get (c : Fin 8) : NodeEntry.resetTable.get c = .reset c := by simp [NodeEntry.resetTable]

/-- One entry replaced by a lawful one. -/
theorem entryLaw_set {nodes : Eight NodeEntry} (h : ∀ c, EntryLaw c (nodes.get c)) {c : Fin 8} {e : NodeEntry}
    (he : EntryLaw c e) (j : Fin 8) : EntryLaw j ((nodes.set c e).get j) := by
  rw [Eight.get_set]
  split
  · rename_i hj
    rw [hj]
    exact he
  · exact h j

/-! ### The start of a round (R95 to R97, R106, R109, R110) -/

section
variable (s : State)

theorem State.startRound_node (c : Fin 8) : s.startRound.scc.nodes.get c =
    if (discoveryRound s.scc.discovery).2.1 = some c then { s.scc.nodes.get c with state := .searching }
    else s.scc.nodes.get c := by
  show (s.scc.beginSearch (discoveryRound s.scc.discovery).2.1).nodes.get c = _
  unfold SensorChain.beginSearch
  cases (discoveryRound s.scc.discovery).2.1 with
  | none => rfl
  | some n =>
    show (s.scc.nodes.set n _).get c = _
    rw [Eight.get_set]
    by_cases hc : c = n
    · subst hc
      simp
    · rw [if_neg hc, if_neg fun h => hc (Option.some.inj h).symm]

theorem State.startRound_node_search {n : Fin 8} (h : (discoveryRound s.scc.discovery).2.1 = some n) :
    s.startRound.scc.nodes.get n = { s.scc.nodes.get n with state := .searching } := by
  rw [s.startRound_node, if_pos h]

theorem State.startRound_node_other {n c : Fin 8} (h : (discoveryRound s.scc.discovery).2.1 = some n) (hc : c ≠ n) :
    s.startRound.scc.nodes.get c = s.scc.nodes.get c := by
  rw [s.startRound_node, if_neg fun heq => hc (Option.some.inj (heq.symm.trans h))]

theorem State.startRound_node_quiet (h : (discoveryRound s.scc.discovery).2.1 = none) (c : Fin 8) :
    s.startRound.scc.nodes.get c = s.scc.nodes.get c := by
  rw [s.startRound_node, h, if_neg nofun]

theorem State.startRound_discovery : s.startRound.scc.discovery = (discoveryRound s.scc.discovery).2.2 := rfl

theorem State.startRound_round :
    s.startRound.scc.round = Round.ofWindows s.polledPositions (discoveryRound s.scc.discovery).2.1 := rfl

theorem State.startRound_lastResult : s.startRound.scc.lastResult = s.scc.lastResult := by
  show (s.scc.beginSearch (discoveryRound s.scc.discovery).2.1).lastResult = _
  unfold SensorChain.beginSearch
  split <;> rfl

/-- The polled positions are the LOCKED ones up to the span (R97). -/
theorem State.mem_polledPositions (c : Fin 8) :
    c ∈ s.polledPositions ↔ ∃ e, s.spanEnd = some e ∧ c ≤ e ∧ (s.scc.nodes.get c).state = .locked := by
  unfold State.polledPositions
  cases s.spanEnd with
  | none => simp
  | some e =>
    simp only [List.mem_filter, mem_eightIndexes, true_and, Bool.and_eq_true, decide_eq_true_eq, beq_iff_eq,
      Option.some.injEq, exists_eq_left', Fin.le_def]

end

section
variable {s : State}

/-- A discovery runs after the start of a round exactly if one ran before it (R110). -/
theorem discoveryRound_eq_none {o : Option Discovery} : (discoveryRound o).2.2 = none ↔ o = none := by
  match o with
  | none => exact Iff.rfl
  | some ⟨_, .clear false, _⟩ | some ⟨_, .clear true, _⟩ | some ⟨_, .search _ _, _⟩ => simp [discoveryRound]

/-- The position that a round searches for is ABSENT or SEARCHING (R106, R109). -/
theorem DiscoveryLaw.searched_state (h : DiscoveryLaw s) {c : Fin 8}
    (hc : (discoveryRound s.scc.discovery).2.1 = some c) :
    (s.scc.nodes.get c).state = .absent ∨ (s.scc.nodes.get c).state = .searching := by
  match hd : s.scc.discovery with
  | none | some ⟨_, .clear false, _⟩ => rw [hd] at hc; cases hc
  | some ⟨_, .clear true, _⟩ =>
    obtain ⟨-, -, habsent⟩ := (discoveryLaw_clear hd).mp h
    exact .inl (habsent c)
  | some ⟨_, .search n rounds, _⟩ =>
    obtain ⟨-, -, -, hn, -⟩ := (discoveryLaw_search hd).mp h
    rw [hd] at hc
    obtain rfl : n = c := Option.some.inj hc
    rw [hn]
    split
    · exact .inl rfl
    · exact .inr rfl

/-- A discovery goes on in order at the start of a round: the first search round is that of position 0, and the entry of
the search position is SEARCHING from then on (R109, R110). -/
theorem DiscoveryLaw.startRound (h : DiscoveryLaw s) : DiscoveryLaw s.startRound := by
  have hdisc := s.startRound_discovery
  match hd : s.scc.discovery with
  | none =>
    have hquiet := s.startRound_node_quiet (by rw [hd]; rfl)
    rw [hd] at hdisc
    rw [discoveryLaw_none hdisc]
    intro c
    rw [hquiet]
    exact (discoveryLaw_none hd).mp h c
  | some ⟨count, .clear false, found⟩ =>
    have hquiet := s.startRound_node_quiet (by rw [hd]; rfl)
    obtain ⟨hcount, hfound, habsent⟩ := (discoveryLaw_clear hd).mp h
    rw [hd] at hdisc
    refine (discoveryLaw_clear hdisc).mpr ⟨hcount, hfound, fun c => ?_⟩
    rw [hquiet]
    exact habsent c
  | some ⟨count, .clear true, found⟩ =>
    have hsearch : (discoveryRound s.scc.discovery).2.1 = some 0 := by rw [hd]; rfl
    obtain ⟨hcount, hfound, habsent⟩ := (discoveryLaw_clear hd).mp h
    rw [hd] at hdisc
    refine (discoveryLaw_search hdisc).mpr ⟨hcount, hcount.1, hfound, by rw [s.startRound_node_search hsearch]; rfl,
      fun c => ⟨fun hc => absurd hc (Fin.not_lt_zero c), fun hc => ?_⟩⟩
    rw [s.startRound_node_other hsearch hc.ne']
    exact habsent c
  | some ⟨count, .search n rounds, found⟩ =>
    have hsearch : (discoveryRound s.scc.discovery).2.1 = some n := by rw [hd]; rfl
    obtain ⟨hcount, hn, hfound, -, hothers⟩ := (discoveryLaw_search hd).mp h
    rw [hd] at hdisc
    refine (discoveryLaw_search hdisc).mpr ⟨hcount, hn, hfound, by rw [s.startRound_node_search hsearch]; rfl,
      fun c => ⟨fun hc => ?_, fun hc => ?_⟩⟩
    · rw [s.startRound_node_other hsearch hc.ne]
      exact (hothers c).1 hc
    · rw [s.startRound_node_other hsearch hc.ne']
      exact (hothers c).2 hc

/-- A round leaves every entry but that of its search position, which is not LOST. -/
theorem ChainLaw.startRound (h : ChainLaw s) : ChainLaw s.startRound := by
  obtain ⟨hentries, hstands, hrunning⟩ := h
  refine ⟨fun c => ?_, hstands.startRound, ?_⟩
  · rw [s.startRound_node]
    split
    · rename_i hc
      have hlost : (s.scc.nodes.get c).state ≠ .lost := by
        rcases hstands.searched_state hc with hs | hs <;> rw [hs] <;> decide
      exact (hentries c).withState hlost (by decide)
    · exact hentries c
  · rw [s.startRound_lastResult, s.startRound_discovery, hrunning, Ne, Ne, discoveryRound_eq_none]

/-- No round in progress means that the search position has had at most 63 rounds, so this one is at most the 64th, and
its search window opens (R111). -/
theorem SearchLaw.startRound (h : DiscoveryLaw s) (hsearch : SearchLaw s) (hround : s.scc.round = none) :
    SearchLaw s.startRound := by
  intro count n rounds found hdisc
  rw [State.startRound_discovery] at hdisc
  match hd : s.scc.discovery with
  | none | some ⟨_, .clear false, _⟩ => rw [hd] at hdisc; cases hdisc
  | some ⟨_, .clear true, _⟩ =>
    rw [hd] at hdisc
    cases hdisc
    exact ⟨by omega, fun h64 => by omega⟩
  | some ⟨_, .search m made, _⟩ =>
    rw [hd] at hdisc
    cases hdisc
    obtain ⟨hle, hopen⟩ := hsearch _ _ _ _ hd
    have hlt : made ≠ 64 := fun h64 => by
      obtain ⟨r, hr, -⟩ := hopen h64
      rw [hround] at hr
      cases hr
    refine ⟨by omega, fun _ => ⟨⟨s.polledPositions, some n⟩, ?_, rfl, fun hpolled => ?_⟩⟩
    · rw [State.startRound_round, hd]
      exact if_neg fun hnone => Option.some_ne_none n hnone.2
    · obtain ⟨-, -, -, hlocked⟩ := (s.mem_polledPositions n).mp hpolled
      rcases h.searched_state (c := n) (by rw [hd]; rfl) with hs | hs <;> rw [hs] at hlocked <;> cases hlocked

end

end Sys2Proof.Machine
end

section
/-! PROOFS. The close of a reply window, branch by branch. -/

namespace Sys2Proof.Machine

section
variable {s : State} {c : Fin 8} {words : List ChainWord} {r : Round}

/-! ### Which window closes (R97) -/

/-- The part once position c's window has closed in round r, before the words in it are judged (R97). -/
def State.windowShut (s : State) (r : Round) (c : Fin 8) : State := s.updScc fun n => { n with round := r.close c }

theorem State.closeWindow_polled (hr : s.scc.round = some r) (hc : c ∈ r.polled) :
    s.closeWindow c words = (s.windowShut r c).closePolled c words := by
  unfold State.closeWindow
  simp only [hr]
  exact if_pos hc

theorem State.closeWindow_search (hr : s.scc.round = some r) (hc : c ∉ r.polled) (hs : r.search = some c) :
    s.closeWindow c words = (s.windowShut r c).closeSearch c words := by
  unfold State.closeWindow
  simp only [hr]
  rw [if_neg hc, if_pos hs]
  rfl

theorem State.closeWindow_not_open (h : ¬WindowOpen s c) : s.closeWindow c words = s := by
  unfold State.closeWindow
  split
  · rfl
  · rename_i r hr
    have hclosed : ¬(c ∈ r.polled ∨ r.search = some c) := fun hopen => h ⟨r, hr, hopen⟩
    rw [not_or] at hclosed
    dsimp only
    rw [if_neg hclosed.1, if_neg hclosed.2]

/-- A window that closes is that of a polled position or that of the search position. -/
theorem State.closeWindow_cases (s : State) (c : Fin 8) (words : List ChainWord) :
    s.closeWindow c words = s ∨ ∃ r, s.scc.round = some r ∧
      (c ∈ r.polled ∧ s.closeWindow c words = (s.windowShut r c).closePolled c words ∨
        c ∉ r.polled ∧ r.search = some c ∧ s.closeWindow c words = (s.windowShut r c).closeSearch c words) := by
  by_cases h : WindowOpen s c
  · obtain ⟨r, hr, hopen⟩ := h
    refine .inr ⟨r, hr, ?_⟩
    by_cases hc : c ∈ r.polled
    · exact .inl ⟨hc, State.closeWindow_polled hr hc⟩
    · have hs := hopen.resolve_left hc
      exact .inr ⟨hc, hs, State.closeWindow_search hr hc hs⟩
  · exact .inl (State.closeWindow_not_open h)

/-! ### A polled position (R102 to R104, R109) -/

/-- The words that come back decide the outcome: no two outcomes are heard in one window (R98, R102). -/
theorem Heard.eq_settle {e e' : NodeEntry} {x : Option Int} (h : Heard e c words e' x) :
    e' = e.settle (e.receive c words) ∧ x = (e.receive c words).value := by
  cases h with
  | good w x hfirst hlo hhi hpass hx =>
    have hreceive : e.receive c words = .good x := by
      simp only [NodeEntry.receive, firstWord_some.mpr hfirst]
      rw [if_pos (by simp [inAcceptance, hlo, hhi]), if_pos ((passes_iff samplePattern w).mpr hpass), hx]
      exact congrArg _ (clampInt_eq _ _ _ (by decide))
    rw [hreceive]
    exact ⟨rfl, rfl⟩
  | bad w hfirst hlo hhi hpass =>
    have hreceive : e.receive c words = .bad := by
      simp only [NodeEntry.receive, firstWord_some.mpr hfirst]
      rw [if_pos (by simp [inAcceptance, hlo, hhi]), if_neg fun h => hpass ((passes_iff samplePattern w).mp h)]
    rw [hreceive, NodeEntry.settle, NodeEntry.missRound_eq]
    exact ⟨rfl, rfl⟩
  | early w hfirst hearly =>
    have hreceive : e.receive c words = .misaligned w.start := by
      simp only [NodeEntry.receive, firstWord_some.mpr hfirst]
      exact if_neg (by simp only [inAcceptance, Bool.and_eq_true, decide_eq_true_eq]; omega)
    rw [hreceive, NodeEntry.settle, NodeEntry.missRound_eq, if_pos (by omega)]
    exact ⟨rfl, rfl⟩
  | late w hfirst hlate =>
    have hreceive : e.receive c words = .misaligned w.start := by
      simp only [NodeEntry.receive, firstWord_some.mpr hfirst]
      exact if_neg (by simp only [inAcceptance, Bool.and_eq_true, decide_eq_true_eq]; omega)
    rw [hreceive, NodeEntry.settle, NodeEntry.missRound_eq, if_neg (by omega)]
    exact ⟨rfl, rfl⟩
  | silent hnone =>
    have hreceive : e.receive c words = .missing := by
      simp only [NodeEntry.receive, firstWord_none.mpr hnone]
    rw [hreceive, NodeEntry.settle, NodeEntry.missRound_eq]
    exact ⟨rfl, rfl⟩

/-- The part once the entry of position c is e. -/
def State.nodeSet (s : State) (c : Fin 8) (e : NodeEntry) : State := s.updScc fun n => n.setNode c e

theorem State.closePolled_unjudged (h : (s.scc.nodes.get c).state ≠ .locked) : s.closePolled c words = s := if_neg h

theorem State.closePolled_kept {e : NodeEntry} {x : Option Int} (h : (s.scc.nodes.get c).state = .locked)
    (hheard : Heard (s.scc.nodes.get c) c words e x) (he : e.state ≠ .lost) :
    s.closePolled c words = (s.nodeSet c e).handOver c x := by
  obtain ⟨rfl, rfl⟩ := hheard.eq_settle
  exact (if_pos h).trans (if_neg he)

theorem State.closePolled_lost {e : NodeEntry} {x : Option Int} (h : (s.scc.nodes.get c).state = .locked)
    (hheard : Heard (s.scc.nodes.get c) c words e x) (he : e.state = .lost) :
    s.closePolled c words = (s.nodeSet c e).nodeLost c := by
  obtain ⟨rfl, rfl⟩ := hheard.eq_settle
  exact (if_pos h).trans (if_pos he)

/-- Everything that the chain gets from a polled position's window: the entry heard, if the entry was LOCKED. -/
theorem State.closePolled_scc (s : State) (c : Fin 8) (words : List ChainWord) :
    (s.scc.nodes.get c).state ≠ .locked ∧ (s.closePolled c words).scc = s.scc ∨
      (s.scc.nodes.get c).state = .locked ∧ ∃ e x, Heard (s.scc.nodes.get c) c words e x ∧
        (s.closePolled c words).scc = (s.nodeSet c e).scc := by
  by_cases h : (s.scc.nodes.get c).state = .locked
  · have hheard := (s.scc.nodes.get c).heard c words
    refine .inr ⟨h, _, _, hheard, ?_⟩
    by_cases he : ((s.scc.nodes.get c).settle ((s.scc.nodes.get c).receive c words)).state = .lost
    · rw [State.closePolled_lost h hheard he, State.nodeLost_scc]
    · rw [State.closePolled_kept h hheard he, State.handOver_scc]
  · exact .inl ⟨h, congrArg State.scc (State.closePolled_unjudged h)⟩

/-! ### The search position (R110, R111) -/

theorem validAnswer_some {w : ChainWord} (hfirst : FirstIn c words w) (hpass : Passes 0b11 w)
    (hecho : (w.bits.extractLsb' 11 3).toNat = c.val) : validAnswer c words = some w := by
  unfold validAnswer
  rw [firstWord_some.mpr hfirst]
  exact if_pos ⟨(passes_iff _ _).mpr hpass, hecho⟩

theorem validAnswer_none
    (h : ∀ w, FirstIn c words w → ¬(Passes 0b11 w ∧ (w.bits.extractLsb' 11 3).toNat = c.val)) :
    validAnswer c words = none := by
  unfold validAnswer
  split
  · rename_i w hw
    exact if_neg fun ⟨hpass, hecho⟩ => h w (firstWord_some.mp hw) ⟨(passes_iff _ _).mp hpass, hecho⟩
  · rfl

/-- A valid answer starts in the reply window of its position (R98, R110). -/
theorem validAnswer_inWindow {w : ChainWord} (h : validAnswer c words = some w) : InWindow c w.start := by
  unfold validAnswer at h
  split at h
  · rename_i v hv
    obtain ⟨_, _, _, hwindow, _⟩ := firstWord_some.mp hv
    split at h
    · cases h
      exact hwindow
    · cases h
  · cases h

/-- The entry of a position that a valid answer locks (R110). -/
def NodeEntry.lockedBy (e : NodeEntry) (w : ChainWord) : NodeEntry :=
  { e with state := .locked, identity := some (identityOf w.bits), expected := w.start, miss := 0 }

/-- The part once the running discovery searches for position `next` (R111). -/
def State.searchMoved (s : State) (count : Nat) (next : Fin 8) (found : Nat) : State :=
  s.updScc fun n => { n with discovery := some ⟨count, .search next 0, found⟩ }

section
variable {count rounds found : Nat} (hd : s.scc.discovery = some ⟨count, .search c rounds, found⟩)
include hd

/-- A valid answer below the count: the entry is locked, and the search goes on at the next position (R110, R111). -/
theorem State.closeSearch_next {w : ChainWord} {next : Fin 8} (hw : validAnswer c words = some w)
    (hnext : next.val = c.val + 1) (hlt : c.val + 1 < count) :
    s.closeSearch c words = (s.nodeSet c ((s.scc.nodes.get c).lockedBy w)).searchMoved count next (c.val + 1) := by
  have hpos : nextPosition c = some next := by
    unfold nextPosition
    rw [dif_pos (hnext ▸ next.isLt)]
    exact congrArg some (Fin.ext hnext.symm)
  unfold State.closeSearch
  simp only [hd, hw, State.lockPosition, if_pos hlt, hpos, if_true]
  rfl

/-- A valid answer at the count ends the discovery (R111). -/
theorem State.closeSearch_last {w : ChainWord} (hw : validAnswer c words = some w) (hle : count ≤ c.val + 1) :
    s.closeSearch c words = (s.nodeSet c ((s.scc.nodes.get c).lockedBy w)).endDiscovery (c.val + 1) count := by
  unfold State.closeSearch
  simp only [hd, hw, State.lockPosition, if_neg (Nat.not_lt.mpr hle), if_true]
  rfl

/-- The 64th search round without a valid answer ends the discovery (R111). -/
theorem State.closeSearch_ends (hw : validAnswer c words = none) (hle : 64 ≤ rounds) :
    s.closeSearch c words = (s.nodeSet c { s.scc.nodes.get c with state := .absent }).endDiscovery c.val count := by
  unfold State.closeSearch
  simp only [hd, hw, if_true]
  exact if_pos hle

theorem State.closeSearch_goes_on (hw : validAnswer c words = none) (hlt : rounds < 64) : s.closeSearch c words = s := by
  unfold State.closeSearch
  simp only [hd, hw, if_true]
  exact if_neg (Nat.not_le.mpr hlt)

end

/-- A search window of a position that is not searched for any more (R109). -/
theorem State.closeSearch_unjudged
    (h : ∀ count rounds found, s.scc.discovery ≠ some ⟨count, .search c rounds, found⟩) : s.closeSearch c words = s := by
  unfold State.closeSearch
  match hd : s.scc.discovery with
  | none | some ⟨_, .clear _, _⟩ => rfl
  | some ⟨count, .search n rounds, found⟩ =>
    refine if_neg fun hn => ?_
    rw [hn] at hd
    exact h _ _ _ hd

end

end Sys2Proof.Machine
end

section
/-! PROOFS. The laws of the node table, of a running discovery and of its search rounds through every command. -/

namespace Sys2Proof.Machine

section
variable {s t : State} {c : Fin 8} {words : List ChainWord}

/-! ### A polled position's window (R97, R102, R104) -/

/-- The entry of a LOCKED position stays LOCKED or is LOST, so a running discovery stands where it stood: the LOCKED
positions lie below its search position. -/
theorem DiscoveryLaw.nodeSet (h : DiscoveryLaw s) {e : NodeEntry} (hc : (s.scc.nodes.get c).state = .locked)
    (he : e.state = .locked ∨ e.state = .lost) : DiscoveryLaw (s.nodeSet c e) := by
  have hnode : ∀ j, (s.nodeSet c e).scc.nodes.get j = if j = c then e else s.scc.nodes.get j := fun j =>
    Eight.get_set _ c j e
  match hd : s.scc.discovery with
  | none =>
    refine (discoveryLaw_none (s := s.nodeSet c e) hd).mpr fun j => ?_
    rw [hnode]
    split
    · rcases he with he | he <;> rw [he] <;> decide
    · exact (discoveryLaw_none hd).mp h j
  | some ⟨_, .clear _, _⟩ =>
    obtain ⟨-, -, habsent⟩ := (discoveryLaw_clear hd).mp h
    rw [habsent c] at hc
    cases hc
  | some ⟨count, .search n rounds, found⟩ =>
    obtain ⟨hcount, hn, hfound, hstate, hothers⟩ := (discoveryLaw_search hd).mp h
    have hcn : c < n := by
      rcases lt_trichotomy c n with hlt | heq | hgt
      · exact hlt
      · rw [heq, hstate] at hc
        split at hc <;> cases hc
      · rw [(hothers c).2 hgt] at hc
        cases hc
    refine (discoveryLaw_search (s := s.nodeSet c e) hd).mpr ⟨hcount, hn, hfound, ?_, fun j => ⟨fun hj => ?_, fun hj => ?_⟩⟩
    · rw [hnode, if_neg hcn.ne']
      exact hstate
    · rw [hnode]
      split
      · exact he
      · exact (hothers j).1 hj
    · rw [hnode, if_neg (hcn.trans hj).ne']
      exact (hothers j).2 hj

theorem ChainLaw.closePolled (h : ChainLaw s) (c : Fin 8) (words : List ChainWord) : ChainLaw (s.closePolled c words) := by
  obtain ⟨hentries, hstands, hrunning⟩ := id h
  rcases s.closePolled_scc c words with ⟨-, hscc⟩ | ⟨hlocked, e, x, hheard, hscc⟩
  · exact h.of_scc hscc
  · have hlost : (s.scc.nodes.get c).state ≠ .lost := by rw [hlocked]; decide
    have hset : ChainLaw (s.nodeSet c e) :=
      ⟨entryLaw_set hentries ((hentries c).heard hlost hheard),
        hstands.nodeSet hlocked (hlocked ▸ hheard.state), hrunning⟩
    exact hset.of_scc hscc

/-! ### The search position's window (R110, R111) -/

/-- The end of a discovery at its search position, whose entry is LOCKED or ABSENT from then on (R110, R111). -/
theorem ChainLaw.endDiscovery (h : ChainLaw s) {count rounds found : Nat}
    (hd : s.scc.discovery = some ⟨count, .search c rounds, found⟩) {e : NodeEntry} (hentry : EntryLaw c e)
    (he : e.state ≠ .searching) (found' count' : Nat) :
    ChainLaw ((s.nodeSet c e).endDiscovery found' count') := by
  obtain ⟨hentries, hstands, -⟩ := h
  obtain ⟨-, -, -, -, hothers⟩ := (discoveryLaw_search hd).mp hstands
  refine ⟨entryLaw_set hentries hentry, (discoveryLaw_none rfl).mpr fun j => ?_,
    iff_of_false (fun hrunning => by cases hrunning) (fun hne => hne rfl)⟩
  show ((s.scc.nodes.set c e).get j).state ≠ .searching
  rw [Eight.get_set]
  split
  · exact he
  · rename_i hj
    rcases lt_or_gt_of_ne hj with hlt | hgt
    · rcases (hothers j).1 hlt with hs | hs <;> rw [hs] <;> decide
    · rw [(hothers j).2 hgt]
      decide

/-- The search moves on from a position that is locked (R110, R111). -/
theorem ChainLaw.searchMoved (h : ChainLaw s) {count rounds found : Nat} {next : Fin 8}
    (hd : s.scc.discovery = some ⟨count, .search c rounds, found⟩) {e : NodeEntry} (hentry : EntryLaw c e)
    (he : e.state = .locked) (hnext : next.val = c.val + 1) (hlt : c.val + 1 < count) :
    ChainLaw ((s.nodeSet c e).searchMoved count next (c.val + 1)) := by
  obtain ⟨hentries, hstands, hrunning⟩ := h
  obtain ⟨hcount, -, -, -, hothers⟩ := (discoveryLaw_search hd).mp hstands
  have hnode : ∀ j, ((s.nodeSet c e).searchMoved count next (c.val + 1)).scc.nodes.get j =
      if j = c then e else s.scc.nodes.get j := fun j => Eight.get_set _ c j e
  have hcnext : c < next := by rw [Fin.lt_def]; omega
  refine ⟨entryLaw_set hentries hentry, (discoveryLaw_search rfl).mpr
    ⟨hcount, by omega, hnext.symm, ?_, fun j => ⟨fun hj => ?_, fun hj => ?_⟩⟩,
    iff_of_true (hrunning.mpr (by rw [hd]; exact Option.some_ne_none _)) (Option.some_ne_none _)⟩
  · rw [hnode, if_neg hcnext.ne', if_pos rfl]
    exact (hothers next).2 hcnext
  · rw [hnode]
    split
    · exact .inl he
    · rename_i hne
      refine (hothers j).1 ?_
      rw [Fin.lt_def] at hj ⊢
      rw [Fin.ext_iff] at hne
      omega
  · rw [hnode, if_neg (hcnext.trans hj).ne']
    exact (hothers j).2 (hcnext.trans hj)

theorem ChainLaw.closeSearch (h : ChainLaw s) (c : Fin 8) (words : List ChainWord) : ChainLaw (s.closeSearch c words) := by
  by_cases hsearch : ∃ count rounds found, s.scc.discovery = some ⟨count, .search c rounds, found⟩
  · obtain ⟨count, rounds, found, hd⟩ := hsearch
    obtain ⟨hentries, hstands, -⟩ := id h
    obtain ⟨hcount, -, -, hstate, -⟩ := (discoveryLaw_search hd).mp hstands
    have hlost : (s.scc.nodes.get c).state ≠ .lost := by
      rw [hstate]
      split <;> decide
    cases hw : validAnswer c words with
    | some w =>
      have hentry : EntryLaw c ((s.scc.nodes.get c).lockedBy w) := by
        obtain ⟨-, -, -, hcounts⟩ := hentries c
        exact ⟨validAnswer_inWindow hw, Nat.zero_le _, iff_of_false (by simp [NodeEntry.lockedBy]) nofun, hcounts⟩
      by_cases hlt : c.val + 1 < count
      · rw [State.closeSearch_next (next := ⟨c.val + 1, by omega⟩) hd hw rfl hlt]
        exact h.searchMoved hd hentry rfl rfl hlt
      · rw [State.closeSearch_last hd hw (Nat.not_lt.mp hlt)]
        exact h.endDiscovery hd hentry (by simp [NodeEntry.lockedBy]) _ _
    | none =>
      by_cases hle : 64 ≤ rounds
      · rw [State.closeSearch_ends hd hw hle]
        exact h.endDiscovery hd ((hentries c).withState hlost (by decide)) (by simp) _ _
      · rw [State.closeSearch_goes_on hd hw (Nat.not_le.mp hle)]
        exact h
  · rw [State.closeSearch_unjudged fun count rounds found hd => hsearch ⟨count, rounds, found, hd⟩]
    exact h

theorem ChainLaw.closeWindow (h : ChainLaw s) (c : Fin 8) (words : List ChainWord) : ChainLaw (s.closeWindow c words) := by
  have hshut : ∀ r, ChainLaw (s.windowShut r c) := fun r => h.congr rfl rfl rfl
  rcases s.closeWindow_cases c words with heq | ⟨r, -, ⟨-, heq⟩ | ⟨-, -, heq⟩⟩
  · rwa [heq]
  · rw [heq]
    exact (hshut r).closePolled c words
  · rw [heq]
    exact (hshut r).closeSearch c words

/-! ### The search window (R111) -/

/-- The search window stays open while that of another position closes (R97). -/
theorem Round.close_search_open {r : Round} {n : Fin 8} (hr : r.search = some n) (hn : n ∉ r.polled) (hc : c ≠ n) :
    ∃ r', r.close c = some r' ∧ r'.search = some n ∧ n ∉ r'.polled := by
  obtain ⟨hnone, hsome⟩ := r.close_shut c
  cases ho : r.close c with
  | none => exact absurd (hnone.mp ho n (.inr hr)).symm hc
  | some r' =>
    obtain ⟨-, hpolled, hsearch⟩ := hsome r' ho
    exact ⟨r', rfl, (hsearch n).mpr ⟨hr, hc.symm⟩, fun h => hn ((hpolled n).mp h).1⟩

/-- The window of another position leaves the search as it was. -/
theorem SearchLaw.of_other_window (h : SearchLaw s) {r : Round} (hr : s.scc.round = some r)
    (hc : c ∈ r.polled ∨ ∀ count rounds found, s.scc.discovery ≠ some ⟨count, .search c rounds, found⟩)
    (hdisc : t.scc.discovery = s.scc.discovery) (hround : t.scc.round = r.close c) : SearchLaw t := by
  intro count n rounds found hd
  rw [hdisc] at hd
  obtain ⟨hle, hopen⟩ := h _ _ _ _ hd
  refine ⟨hle, fun h64 => ?_⟩
  obtain ⟨r', hr', hsearch, hpolled⟩ := hopen h64
  obtain rfl : r = r' := Option.some.inj (hr.symm.trans hr')
  have hcn : c ≠ n := by
    rintro rfl
    exact hc.elim hpolled fun hne => hne _ _ _ hd
  rw [hround]
  exact Round.close_search_open hsearch hpolled hcn

theorem SearchLaw.closeSearch (h : SearchLaw s) (hstands : DiscoveryLaw s) {r : Round} (hr : s.scc.round = some r)
    (words : List ChainWord) : SearchLaw ((s.windowShut r c).closeSearch c words) := by
  by_cases hsearch : ∃ count rounds found, s.scc.discovery = some ⟨count, .search c rounds, found⟩
  · obtain ⟨count, rounds, found, hd⟩ := hsearch
    have hd' : (s.windowShut r c).scc.discovery = some ⟨count, .search c rounds, found⟩ := hd
    cases hw : validAnswer c words with
    | some w =>
      by_cases hlt : c.val + 1 < count
      · obtain ⟨hcount, -⟩ := (discoveryLaw_search hd).mp hstands
        rw [State.closeSearch_next (next := ⟨c.val + 1, by omega⟩) hd' hw rfl hlt]
        intro _ _ _ _ hmoved
        cases hmoved
        exact ⟨Nat.zero_le _, fun h64 => by omega⟩
      · rw [State.closeSearch_last hd' hw (Nat.not_lt.mp hlt)]
        exact .of_no_search nofun
    | none =>
      by_cases hle : 64 ≤ rounds
      · rw [State.closeSearch_ends hd' hw hle]
        exact .of_no_search nofun
      · rw [State.closeSearch_goes_on hd' hw (Nat.not_le.mp hle)]
        intro _ _ _ _ hsame
        cases hd'.symm.trans hsame
        exact ⟨by omega, fun h64 => by omega⟩
  · have hother : ∀ count rounds found, s.scc.discovery ≠ some ⟨count, .search c rounds, found⟩ :=
      fun count rounds found hd => hsearch ⟨count, rounds, found, hd⟩
    rw [State.closeSearch_unjudged (s := s.windowShut r c) hother]
    exact h.of_other_window hr (.inr hother) rfl rfl

theorem SearchLaw.closeWindow (h : SearchLaw s) (hstands : DiscoveryLaw s) (c : Fin 8) (words : List ChainWord) :
    SearchLaw (s.closeWindow c words) := by
  rcases s.closeWindow_cases c words with heq | ⟨r, hr, ⟨hc, heq⟩ | ⟨-, -, heq⟩⟩
  · rwa [heq]
  · rw [heq]
    rcases (s.windowShut r c).closePolled_scc c words with ⟨-, hscc⟩ | ⟨-, e, x, -, hscc⟩
    all_goals exact h.of_other_window hr (.inl hc) (by rw [hscc]; rfl) (by rw [hscc]; rfl)
  · rw [heq]
    exact h.closeSearch hstands hr words

/-! ### SET CHAIN and DISCOVER (R108, R109, R113) -/

theorem ChainLaw.setChain (h : ChainLaw s) (lane : Lane) (rate window na nd nc : Byte) :
    ChainLaw (s.setChain lane rate window na nd nc) := h.congr rfl rfl rfl

theorem SearchLaw.setChain (h : SearchLaw s) (lane : Lane) (rate window na nd nc : Byte) :
    SearchLaw (s.setChain lane rate window na nd nc) := h.congr rfl rfl

/-- What DISCOVER leaves of the chain: everything if it is refused, and otherwise a discovery at its start (R108, R109). -/
theorem State.discover_scc (s : State) (lane : Lane) (count : Byte) :
    (s.discover lane count).scc = s.scc ∨
      (s.discover lane count).scc = s.scc.discover (discoveryCountOf count) := by
  unfold State.discover
  split
  · exact .inl rfl
  · split
    · exact .inl rfl
    · exact .inr (by simp)

theorem discoveryCountOf_bounds (b : Byte) : 1 ≤ discoveryCountOf b ∧ discoveryCountOf b ≤ 8 := by
  unfold discoveryCountOf
  omega

theorem ChainLaw.discover (h : ChainLaw s) (lane : Lane) (count : Byte) : ChainLaw (s.discover lane count) := by
  rcases s.discover_scc lane count with hscc | hscc
  · exact h.of_scc hscc
  · have hnode : ∀ c, (s.discover lane count).scc.nodes.get c = .reset c := fun c => by
      rw [hscc]
      exact resetTable_get c
    refine ⟨fun c => (hnode c).symm ▸ .reset c, ?_, ?_⟩
    · refine (discoveryLaw_clear (by rw [hscc]; rfl)).mpr ⟨discoveryCountOf_bounds count, rfl, fun c => ?_⟩
      rw [hnode]
      rfl
    · rw [hscc]
      exact iff_of_true rfl (Option.some_ne_none _)

theorem SearchLaw.discover (h : SearchLaw s) (lane : Lane) (count : Byte) : SearchLaw (s.discover lane count) := by
  rcases s.discover_scc lane count with hscc | hscc
  · exact h.congr (by rw [hscc]) (by rw [hscc])
  · exact .of_no_search (by rw [hscc]; nofun)

end

/-! ### Every command -/

/-- The laws of the chain and of its search rounds together (R101 to R104, R106, R108 to R111, R114). -/
structure KeepsChain (s t : State) : Prop where
  chain : ChainLaw s → ChainLaw t
  search : ChainLaw s → SearchLaw s → SearchLaw t

namespace KeepsChain

variable {s t u : State}

theorem of_scc (h : t.scc = s.scc) : KeepsChain s t :=
  ⟨fun hc => hc.of_scc h, fun _ hs => hs.congr (by rw [h]) (by rw [h])⟩

theorem trans (h : KeepsChain s t) (h' : KeepsChain t u) : KeepsChain s u :=
  ⟨fun hc => h'.chain (h.chain hc), fun hc hs => h'.search (h.chain hc) (h.search hc hs)⟩

/-- Every reset puts the chain at its reset values (R115). -/
theorem of_reset (h : t.scc = .reset) : KeepsChain s t :=
  ⟨fun _ => reset_chainLaw.of_scc h, fun _ _ => reset_searchLaw.congr (by rw [h]; rfl) (by rw [h]; rfl)⟩

theorem request {lane : Lane} {kind : RequestKind} {payload : List Byte} {body : State → State}
    (h : ∀ u, KeepsChain u (body u)) : KeepsChain s (s.request lane kind payload body) := by
  obtain ⟨u, hu, heq | heq⟩ := s.request_cases lane kind payload body
  · rw [heq]
    exact .of_scc hu
  · rw [heq]
    exact trans (.of_scc hu) (h u)

theorem plantReset (s : State) (lane : Lane) (straps : Straps) : KeepsChain s (s.plantReset lane straps) := by
  unfold State.plantReset
  split
  · exact .of_reset rfl
  · exact .of_scc rfl

theorem powerUp (s : State) (straps : Straps) (pinLow : Bool) : KeepsChain s (s.powerUp straps pinLow) := by
  unfold State.powerUp
  split <;> exact .of_reset rfl

theorem pinReset (s : State) : KeepsChain s s.pinReset := by
  unfold State.pinReset
  split
  · exact .of_scc rfl
  all_goals exact .of_reset rfl

/-- Every command but the start of a round keeps both laws. -/
theorem exec (s : State) {c : Instr} (hc : c ≠ .roundStart) : ∃ t, Machine.exec c s = .next t ∧ KeepsChain s t := by
  cases hreach : reachesChain c with
  | false =>
    obtain ⟨t, ht, hscc⟩ := exec_scc s hreach
    exact ⟨t, ht, .of_scc hscc⟩
  | true =>
    cases c with
    | roundStart => exact absurd rfl hc
    | replyWindowClose position words =>
      exact ⟨_, rfl, fun h => h.closeWindow position words, fun h hs => hs.closeWindow h.2.1 position words⟩
    | setChain lane rate window na nd nc =>
      exact ⟨_, rfl, request fun _ => ⟨fun h => h.setChain .., fun _ hs => hs.setChain lane rate window na nd nc⟩⟩
    | discover lane count =>
      exact ⟨_, rfl, request fun _ => ⟨fun h => h.discover lane count, fun _ hs => hs.discover lane count⟩⟩
    | reset lane straps => exact ⟨_, rfl, request fun u => plantReset u lane straps⟩
    | powerOn straps pinLow => exact ⟨_, rfl, powerUp s straps pinLow⟩
    | resetPin => exact ⟨_, rfl, pinReset s⟩
    | _ => cases hreach

end KeepsChain

/-- A round starts only in a part that the reset pin does not hold (R95, R176). -/
theorem State.roundTimer_eq (s : State) : s.roundTimer = if s.tbu.phase = .held then s else s.startRound := by
  unfold State.roundTimer
  split
  · rw [if_pos ‹_›]
  all_goals rw [if_neg (by rw [‹s.tbu.phase = _›]; decide)]

/-- Settles O56: few commands reach the chain, and the start of a round finds no round in progress. -/
theorem chainLawsKept : Obligations.ChainLawsKept := by
  intro s t hchain h
  unfold step at h
  split at h
  · cases h
    exact ⟨hchain, fun hs _ => hs⟩
  · rename_i c rest hpending
    have hqueue : KeepsChain s { s with pending := rest } := .of_scc rfl
    by_cases hc : c = .roundStart
    · subst hc
      cases h
      rw [State.roundTimer_eq]
      split
      · exact ⟨hqueue.chain hchain, fun hs _ => hqueue.search hchain hs⟩
      · exact ⟨(hqueue.chain hchain).startRound, fun hs hround =>
          (hqueue.search hchain hs).startRound (hqueue.chain hchain).2.1 (hround rest hpending)⟩
    · obtain ⟨u, hu, hkeeps⟩ := KeepsChain.exec { s with pending := rest } hc
      rw [hu] at h
      cases h
      have hkept := hqueue.trans hkeeps
      exact ⟨hkept.chain hchain, fun hs _ => hkept.search hchain hs⟩

end Sys2Proof.Machine
end

section
/-! PROOFS. The requests that read and set the sensor chain: READ NODE, SET CHAIN, DISCOVER. -/

namespace Sys2Proof.Machine

/-! ### READ NODE (R114) -/

theorem indexOf_eq {b : Byte} {i : Fin 8} (h : i.val = min b.toNat 7) : indexOf b = i := Fin.ext h.symm

theorem SensorChain.nodeBytes_eq (n : SensorChain) (i : Fin 8) : n.nodeBytes i =
    [byteOf i.val, (n.nodes.get i).state.code] ++ nat16 (((n.nodes.get i).identity.map BitVec.toNat).getD 65535) ++
      nat16 (48 + 48 * i.val) ++ nat16 (n.nodes.get i).expected ++ [byteOf (n.nodes.get i).miss] ++
      nat16 (n.nodes.get i).parity ++ nat16 (n.nodes.get i).misalign := by
  unfold SensorChain.nodeBytes
  dsimp only
  cases (n.nodes.get i).identity <;> rfl

theorem spanByte_eq (o : Option (Fin 8)) : spanByte o = byteOf ((o.map Fin.val).getD 15) := by cases o <;> rfl

/-- The bytes of the last result: its kind, then two bytes that are stated for a found count (log entry 11). -/
theorem lastResultBytes_spec (fresh : Nat) (l : LastResult) : ∃ x y : Byte,
    (∀ found count, l = .foundOf found count → x = byteOf found ∧ y = byteOf count) ∧
      (l = .none → lastResultBytes fresh l = [0, x, y]) ∧ (l = .running → lastResultBytes fresh l = [1, x, y]) ∧
      ∀ found count, l = .foundOf found count → lastResultBytes fresh l = [2, x, y] := by
  cases l with
  | none => exact ⟨_, _, nofun, fun _ => rfl, nofun, nofun⟩
  | running => exact ⟨_, _, nofun, nofun, fun _ => rfl, nofun⟩
  | foundOf found count =>
    exact ⟨byteOf found, byteOf count, fun _ _ h => by cases h; exact ⟨rfl, rfl⟩, nofun, nofun, fun _ _ _ => rfl⟩

/-- Settles O17: the page part by part, the discovery and the last result by what they are. -/
theorem readNodeReply : Obligations.ReadNodeReply := by
  intro s lane b i h hi
  obtain ⟨x, y, hfound, hnone, hrunning, hended⟩ := lastResultBytes_spec s.openReads s.scc.lastResult
  have hrun := exec_of_takes (i := .readNode lane b) (payload := [b]) rfl h
  rw [indexOf_eq hi] at hrun
  have ha := answered_of_quiet (s := s) (lane := lane) (kind := .readNode) (payload := [b]) rfl .ok (s.nodePage i)
  refine ⟨x, y, hfound, _, hrun, rfl, ?_⟩
  refine (congrArg (fun page => Answered s _ lane .readNode [b] ⟨0x05, .ok, s.rc.drive, page⟩ quiet) ?page).mp ha
  refine congrArg₂ (· ++ ·) (congrArg₂ (· ++ ·) (congrArg₂ (· ++ ·) (s.scc.nodeBytes_eq i) ?span) ?discovery) ?result
  case span => rw [spanByte_eq]
  case discovery =>
    match s.scc.discovery with
    | none | some ⟨_, .clear _, _⟩ | some ⟨_, .search _ _, _⟩ => rfl
  case result =>
    show lastResultBytes s.openReads s.scc.lastResult = _
    cases hl : s.scc.lastResult with
    | none => rw [hl] at hnone; exact hnone rfl
    | running => rw [hl] at hrunning; exact hrunning rfl
    | foundOf found count => rw [hl] at hended; exact hended found count rfl

/-! ### SET CHAIN (R113, R119) -/

theorem byte_eq_iff_toNat (b : Byte) (n : Nat) (hn : n < 256) : b = BitVec.ofNat 8 n ↔ b.toNat = n := by
  rw [BitVec.toNat_eq, BitVec.toNat_ofNat, Nat.mod_eq_of_lt hn]

/-- A rate code above 2 is taken as 2 (R113). -/
theorem rateOf_spec (b : Byte) :
    (b.toNat = 0 → rateOf b = .r1024) ∧ (b.toNat = 1 → rateOf b = .r2048) ∧ (2 ≤ b.toNat → rateOf b = .r4096) := by
  have h0 := byte_eq_iff_toNat b 0 (by decide)
  have h1 := byte_eq_iff_toNat b 1 (by decide)
  refine ⟨fun h => if_pos (h0.mpr h), fun h => ?_, fun h => ?_⟩
  · exact (if_neg fun hb => by rw [h0.mp hb] at h; cases h).trans (if_pos (h1.mpr h))
  · refine (if_neg fun hb => ?_).trans (if_neg fun hb => ?_)
    · rw [h0.mp hb] at h
      omega
    · rw [h1.mp hb] at h
      omega

theorem rateOf_code (b : Byte) : (rateOf b).code = byteOf (min b.toNat 2) := by
  obtain ⟨h0, h1, h2⟩ := rateOf_spec b
  rcases Nat.lt_or_ge b.toNat 2 with hlt | hge
  · rw [Nat.min_eq_left hlt.le]
    rcases Nat.lt_or_ge b.toNat 1 with hz | ho
    · rw [h0 (by omega), show b.toNat = 0 by omega]
      rfl
    · rw [h1 (by omega), show b.toNat = 1 by omega]
      rfl
  · rw [h2 hge, Nat.min_eq_right hge]
    rfl

theorem Vibration.configure_same {v : Vibration} {window na nd nc : Byte} (h : windowOf window = v.windowCode) :
    (v.configure window na nd nc).channels = v.channels := if_pos h

theorem Vibration.configure_emptied {v : Vibration} {window na nd nc : Byte} (h : windowOf window ≠ v.windowCode)
    (c : Channel) : (v.configure window na nd nc).channels.get c = (v.channels.get c).emptied := by
  have hchannels : (v.configure window na nd nc).channels = v.channels.map fun _ c => c.emptyWindow := if_neg h
  rw [hchannels, Eight.get_map]
  rfl

/-- Settles O33: each setting by its own bound; the request has no check and raises no notice. -/
theorem setChainStoresSettings : Obligations.SetChainStoresSettings := by
  intro s lane rate window na nd nc h
  obtain ⟨h0, h1, h2⟩ := rateOf_spec rate
  refine ⟨_, rateOf rate, h0, h1, h2, exec_of_takes rfl h, rfl, Vibration.configure_same, Vibration.configure_emptied, ?_⟩
  rw [← rateOf_code]
  exact answered_of_quiet rfl .ok _

end Sys2Proof.Machine
end

section
/-! PROOFS. The consequences of channel state changes (R128), and the start of a discovery. -/

namespace Sys2Proof.Machine

/-! ### VIB_STATE and the re-evaluation (R128) -/

theorem watcherBit_congr {bit : Byte} {l l' : LaneState} (h : l.role = l'.role) : watcherBit bit l = watcherBit bit l' := by
  simp only [watcherBit, h]

theorem State.raiseWatchers_onlyNotices (s : State) (k : Notice) : OnlyNotices s (s.raiseWatchers k) (watcherBit k.bit) := by
  intro j
  rw [State.raiseWatchers_get]
  unfold watcherBit
  split
  · rfl
  · exact (LaneState.or_zero_notices _).symm

/-- Notices raised one after another, where the second kind does not look at the notices of a lane. -/
theorem OnlyNotices.trans {s t u : State} {f g : LaneState → Byte} (h : OnlyNotices s t f) (h' : OnlyNotices t u g)
    (hg : ∀ (l : LaneState) (n : Byte), g { l with notices := n } = g l) : OnlyNotices s u (raisedBoth f g) := by
  intro j
  rw [h' j, h j, hg]
  simp only [raisedBoth, BitVec.or_assoc]

@[simp] theorem raisedBoth_quiet (f : LaneState → Byte) : raisedBoth quiet f = f := by
  funext l
  simp [raisedBoth, quiet]

/-- The re-evaluation of the targets: what it changes and which notices it raises (R38, R42, R51). -/
theorem State.retarget_eq (s : State) : s.retarget = { s with lanes := s.retarget.lanes, slu := s.retarget.slu } := by
  obtain ⟨lanes, heq⟩ := s.retarget_spec
  rw [heq]

/-- The consequences of a channel state change: VIB_STATE on the watching lanes, and one re-evaluation (R128). -/
theorem State.channelMoved_spec (s : State) (h : s.slu.clamped) :
    s.channelMoved = { s with lanes := s.channelMoved.lanes, slu := s.channelMoved.slu } ∧
      Retargeted s s.channelMoved ∧
      OnlyNotices s s.channelMoved (raisedBoth (watcherBit 0x04) (limitFalls s s.channelMoved)) := by
  obtain ⟨hretargeted, hnotices⟩ := (s.raiseWatchers .vibState).retarget_retargeted h
  have hbit : (Notice.vibState.bit : Byte) = 0x04 := by decide
  exact ⟨(s.raiseWatchers .vibState).retarget_eq, hretargeted,
    hbit ▸ (s.raiseWatchers_onlyNotices .vibState).trans hnotices fun _ _ => rfl⟩

/-! ### DISCOVER (R108, R109, R130) -/

theorem Vibration.anyKnown_iff (v : Vibration) : v.anyKnown = true ↔
    ∃ c, (v.channels.get c).config.enabled = true ∧ (v.channels.get c).state ≠ .unknown := by
  simp only [Vibration.anyKnown, Eight.toList, List.any_cons, List.any_nil, Bool.or_false, Bool.or_eq_true,
    Bool.and_eq_true, bne_iff_ne]
  constructor
  · rintro (h | h | h | h | h | h | h | h)
    exacts [⟨0, h⟩, ⟨1, h⟩, ⟨2, h⟩, ⟨3, h⟩, ⟨4, h⟩, ⟨5, h⟩, ⟨6, h⟩, ⟨7, h⟩]
  · rintro ⟨c, h⟩
    fin_cases c <;> simp_all [Eight.get]

theorem Vibration.forgetEnabled_get (v : Vibration) (c : Channel) : v.forgetEnabled.channels.get c =
    if (v.channels.get c).config.enabled then (v.channels.get c).forgotten else v.channels.get c := by
  simp only [Vibration.forgetEnabled, Eight.get_map]
  rfl

/-- The hand-over of a discovery's start to the channels (R109, R128, R130). -/
theorem State.forgetChannels_spec (s : State) (h : s.slu.clamped) :
    s.forgetChannels = { s.updVlu Vibration.forgetEnabled with
        lanes := s.forgetChannels.lanes, slu := s.forgetChannels.slu } ∧
      Retargeted (s.updVlu Vibration.forgetEnabled) s.forgetChannels ∧
      OnlyNotices s s.forgetChannels
        (raisedBoth (if s.vlu.anyKnown then watcherBit 0x04 else quiet) (limitFalls s s.forgetChannels)) := by
  by_cases hany : s.vlu.anyKnown = true
  · have heq : s.forgetChannels = (s.updVlu Vibration.forgetEnabled).channelMoved := if_pos hany
    rw [if_pos hany, heq]
    exact (s.updVlu Vibration.forgetEnabled).channelMoved_spec h
  · have heq : s.forgetChannels = (s.updVlu Vibration.forgetEnabled).retarget := if_neg hany
    obtain ⟨hretargeted, hnotices⟩ := (s.updVlu Vibration.forgetEnabled).retarget_retargeted h
    rw [if_neg hany, heq, raisedBoth_quiet]
    exact ⟨(s.updVlu Vibration.forgetEnabled).retarget_eq, hretargeted, hnotices⟩

theorem State.discover_busy {s : State} {lane : Lane} {count : Byte} (hd : s.rc.drive.regulating = false)
    (h : s.scc.discovery ≠ none) : s.discover lane count = s.answer lane .discover .busy [] := by
  unfold State.discover
  rw [hd, if_neg (by decide), if_pos (Option.isSome_iff_ne_none.mpr h)]

theorem State.discover_accepted {s : State} {lane : Lane} {count : Byte} (hd : s.rc.drive.regulating = false)
    (h : s.scc.discovery = none) : s.discover lane count =
      (s.updScc fun n => n.discover (discoveryCountOf count)).forgetChannels.answer lane .discover .accepted
        [byteOf (discoveryCountOf count)] := by
  unfold State.discover
  rw [hd, if_neg (by decide), h]
  rfl

/-- Settles O34: the check of a running discovery, then the discovery's start in the chain and in the channels. -/
theorem discoverStartsADiscovery : Obligations.DiscoverStartsADiscovery := by
  intro s lane count hlaw h hnot
  have hd : s.rc.drive.regulating = false := by
    rw [← Bool.not_eq_true, ← inRegulation_iff]
    exact hnot
  refine ⟨fun hrunning => refused_of_answer rfl h
    (State.discover_busy (s := s.closeSelection lane (requestFrame .discover [count])) hd hrunning), fun hnone => ?_⟩
  have hrun := exec_eq_of_takes (i := .discover lane count) (payload := [count]) rfl h
    (State.discover_accepted (s := s.closeSelection lane (requestFrame .discover [count])) hd hnone)
  obtain ⟨heq, hretargeted, hnotices⟩ := ((s.closeSelection lane (requestFrame .discover [count])).updScc fun n =>
    n.discover (discoveryCountOf count)).forgetChannels_spec hlaw.clamped
  generalize ((s.closeSelection lane (requestFrame .discover [count])).updScc fun n =>
    n.discover (discoveryCountOf count)).forgetChannels = t at *
  refine ⟨_, { s with scc := s.scc.discover (discoveryCountOf count), vlu := s.vlu.forgetEnabled }, rfl,
    resetTable_get, s.vlu.forgetEnabled_get, hrun, ?frame, hretargeted, ?lanes⟩
  case frame =>
    rw [heq]
    rfl
  case lanes =>
    have hdrive : t.rc.drive = s.rc.drive := by rw [heq]; rfl
    have hknown := if_congr (x := watcherBit 0x04) (y := quiet) s.vlu.anyKnown_iff rfl rfl
    rw [← hdrive, ← hknown]
    refine answered_of_onlyNotices hnotices (fun j => ?_) .accepted _
    have hrole := State.closeSelection_role s lane (requestFrame .discover [count]) j
    refine congrArg₂ (· ||| ·) ?_ (limitBit_congr hrole)
    split
    · exact watcherBit_congr hrole
    · rfl

end Sys2Proof.Machine
end

section
/-! PROOFS. The start of a round: the span, the poll word, and the windows that open. -/

namespace Sys2Proof.Machine

/-! ### The span (R96) -/

/-- The span is the highest position whose node is LOCKED and whose channel is enabled. -/
theorem State.spanEnd_spec (s : State) :
    (∀ e, s.spanEnd = some e → (s.scc.nodes.get e).state = .locked ∧ (s.vlu.channels.get e).config.enabled = true) ∧
      ∀ c, (s.scc.nodes.get c).state = .locked → (s.vlu.channels.get c).config.enabled = true →
        ∃ e, s.spanEnd = some e ∧ c ≤ e := by
  have hfalling : eightIndexes.reverse.Pairwise (· > ·) := by decide
  have hsome : ∀ e, s.spanEnd = some e → (s.scc.nodes.get e).state = .locked ∧
      (s.vlu.channels.get e).config.enabled = true := fun e he => by
    simpa using List.find?_some he
  refine ⟨hsome, fun c hlocked henabled => ?_⟩
  cases he : s.spanEnd with
  | none =>
    have hnone := List.find?_eq_none.mp he c (List.mem_reverse.mpr (mem_eightIndexes c))
    simp [hlocked, henabled] at hnone
  | some e =>
    refine ⟨e, rfl, ?_⟩
    obtain ⟨-, above, below, hlist, hnot⟩ := List.find?_eq_some_iff_append.mp he
    rw [hlist, List.pairwise_append, List.pairwise_cons] at hfalling
    obtain ⟨-, ⟨hbelow, -⟩, -⟩ := hfalling
    have hmem : c ∈ above ++ e :: below := hlist ▸ List.mem_reverse.mpr (mem_eightIndexes c)
    rcases List.mem_append.mp hmem with habove | hrest
    · have hnone := hnot c habove
      simp [hlocked, henabled] at hnone
    · rcases List.mem_cons.mp hrest with rfl | hlow
      · exact le_refl _
      · exact (hbelow c hlow).le

theorem spanCode_toNat (o : Option (Fin 8)) : (spanCode o).toNat = (o.map Fin.val).getD 15 := by
  cases o with
  | none => rfl
  | some c => exact Nat.mod_eq_of_lt (by omega)

/-! ### The poll word (Table 2) -/

section
variable (span mark : BitVec 4)

/-- The bits of the poll word from the parity bit up (Table 2). -/
theorem pollWord_getLsbD (i : Nat) : (pollWord span mark).getLsbD (i + 1) =
    if i < 4 then mark.getLsbD i else if i < 8 then span.getLsbD (i - 4) else (0b11#2).getLsbD (i - 8) := by
  unfold pollWord
  dsimp only
  simp only [BitVec.getLsbD_append]
  rw [if_neg (by omega)]
  simp only [Nat.add_sub_cancel]
  by_cases h4 : i < 4
  · simp [h4, show i < 8 by omega]
  · by_cases h8 : i < 8
    · simp [h4, h8]
    · simp [h4, h8]

theorem pollWord_start : (pollWord span mark).extractLsb' 9 2 = 0b11 := by
  refine BitVec.eq_of_getLsbD_eq fun i hi => ?_
  rw [BitVec.getLsbD_extractLsb', show 9 + i = (8 + i) + 1 by omega, pollWord_getLsbD, if_neg (by omega), if_neg (by omega),
    decide_eq_true hi, Bool.true_and, Nat.add_sub_cancel_left]
  rfl

theorem pollWord_span : (pollWord span mark).extractLsb' 5 4 = span := by
  refine BitVec.eq_of_getLsbD_eq fun i hi => ?_
  rw [BitVec.getLsbD_extractLsb', show 5 + i = (4 + i) + 1 by omega, pollWord_getLsbD, if_neg (by omega), if_pos (by omega),
    decide_eq_true hi, Bool.true_and, Nat.add_sub_cancel_left]

theorem pollWord_mark : (pollWord span mark).extractLsb' 1 4 = mark := by
  refine BitVec.eq_of_getLsbD_eq fun i hi => ?_
  rw [BitVec.getLsbD_extractLsb', Nat.add_comm, pollWord_getLsbD, if_pos hi, decide_eq_true hi, Bool.true_and]

/-- The ones of a word with one bit more at its low end. -/
theorem onesBelow_append_bit {m : Nat} (w : BitVec m) (b : Bool) (n : Nat) :
    onesBelow (w ++ BitVec.ofBool b) (n + 1) = onesBelow w n + b.toNat := by
  have hlow : (w ++ BitVec.ofBool b).getLsbD 0 = b := by
    rw [BitVec.getLsbD_append, if_pos Nat.one_pos]
    cases b <;> rfl
  have hhigh : ∀ i, (w ++ BitVec.ofBool b).getLsbD (i + 1) = w.getLsbD i := fun i => by simp [BitVec.getLsbD_append]
  unfold onesBelow
  rw [List.range_succ_eq_map, List.countP_cons, List.countP_map, hlow]
  congr 1
  · exact List.countP_congr fun i _ => by simp [hhigh]
  · cases b <;> rfl

/-- The ones of the low end of a word. -/
theorem onesBelow_append {m k n : Nat} (v : BitVec m) (w : BitVec k) (h : n ≤ k) : onesBelow (v ++ w) n = onesBelow w n := by
  unfold onesBelow
  refine List.countP_congr fun i hi => ?_
  rw [BitVec.getLsbD_append, if_pos ((List.mem_range.mp hi).trans_le h)]

theorem pollWord_even : onesBelow (pollWord span mark) 9 % 2 = 0 := by
  have hones : onesBelow (pollWord span mark) 9 =
      onesBelow (span ++ mark) 8 + (onesBelow (span ++ mark) 8 % 2 == 1).toNat := by
    unfold pollWord
    dsimp only
    exact (onesBelow_append_bit _ _ 8).trans (congrArg (· + _) (onesBelow_append _ _ (le_refl 8)))
  rw [hones]
  rcases Nat.mod_two_eq_zero_or_one (onesBelow (span ++ mark) 8) with h | h
  · simp [h]
  · simp [h]
    omega

end

/-! ### The windows (R97) -/

theorem Round.ofWindows_polled {polled : List (Fin 8)} {search : Option (Fin 8)} (c : Fin 8) :
    (∃ r, Round.ofWindows polled search = some r ∧ c ∈ r.polled) ↔ c ∈ polled := by
  unfold Round.ofWindows
  split
  · rename_i h
    simp [h.1]
  · simp

theorem Round.ofWindows_search {polled : List (Fin 8)} {search : Option (Fin 8)} (c : Fin 8) :
    (∃ r, Round.ofWindows polled search = some r ∧ r.search = some c) ↔ search = some c := by
  unfold Round.ofWindows
  split
  · rename_i h
    simp [h.2]
  · simp

/-- Everything of the chain that the start of a round leaves as it was (R95, R96, R97, R110). -/
theorem State.startRound_eq (s : State) : s.startRound = { s with scc := { s.scc with
    nodes := s.startRound.scc.nodes
    timerRate := s.scc.rate
    discovery := s.startRound.scc.discovery
    poll := some (pollWord (spanCode s.spanEnd) (discoveryRound s.scc.discovery).1)
    lastSpan := s.spanEnd
    round := s.startRound.scc.round } } := by
  unfold State.startRound
  dsimp only
  cases (discoveryRound s.scc.discovery).2.1 <;> rfl

/-- Settles O42: the span, the poll word and the windows each by its own rule, the mark and the search position by where
the discovery stands. -/
theorem roundStartSendsThePoll : Obligations.RoundStartSendsThePoll := by
  intro s hphase
  obtain ⟨hspan, hhighest⟩ := s.spanEnd_spec
  have hrun : exec .roundStart s = .next s.startRound := by
    show Host.Outcome.next s.roundTimer = _
    rw [s.roundTimer_eq, if_neg hphase]
  refine ⟨s.startRound, s.spanEnd, (discoveryRound s.scc.discovery).1, (discoveryRound s.scc.discovery).2.1, _, hrun,
    s.startRound_eq, hspan, hhighest, ?discovery,
    ⟨pollWord_start _ _, by rw [pollWord_span, spanCode_toNat], pollWord_mark _ _, pollWord_even _ _⟩,
    s.startRound_node, fun c => ?polled, fun c => ?search⟩
  case discovery =>
    rw [s.startRound_discovery]
    match s.scc.discovery with
    | none => exact ⟨rfl, rfl, rfl⟩
    | some ⟨_, .clear false, _⟩ => exact ⟨rfl, rfl, rfl⟩
    | some ⟨_, .clear true, _⟩ => exact ⟨rfl, rfl, rfl⟩
    | some ⟨_, .search n _, _⟩ => exact ⟨Nat.mod_eq_of_lt (by omega), rfl, rfl⟩
  case polled => rw [s.startRound_round, Round.ofWindows_polled, s.mem_polledPositions]
  case search => rw [s.startRound_round, Round.ofWindows_search]

end Sys2Proof.Machine
end

section
/-! PROOFS. The outcomes of polled windows and of the search window. -/

namespace Sys2Proof.Machine

section
variable {s : State} {c : Fin 8} {words : List ChainWord} {r : Round}

/-! ### A sample handed over (R101 to R103, R120 to R122) -/

/-- A hand-over joins the window of an enabled channel (R120 to R122). -/
theorem State.handOver_eq (s : State) (c : Fin 8) (x : Option Int)
    (h : (s.vlu.channels.get c).count < windowLength s.vlu.windowCode) :
    s.handOver c x = s.updVlu fun v => { v with
      channels :=
        if (s.vlu.channels.get c).config.enabled then
          v.channels.set c ((s.vlu.channels.get c).handed x s.vlu.windowCode)
        else v.channels } := by
  unfold State.handOver
  split
  · cases x with
    | none =>
      rw [← ChannelEntry.failedSample_eq _ _ h]
      rfl
    | some x =>
      rw [← ChannelEntry.goodSample_eq _ _ _ h]
      rfl
  · rfl

/-- Settles O43: the window shuts first; the entry then says whether it is judged. -/
theorem polledWindowOutcome : Obligations.PolledWindowOutcome := by
  intro s c words
  refine ⟨fun r e x hlaw hr hc hlocked hheard he => ⟨r.close c, r.close_shut c, ?judged⟩,
    fun r hr hc hlocked => ⟨r.close c, r.close_shut c, ?unjudged⟩, fun h => ?shut⟩
  case judged =>
    obtain ⟨-, -, -, -, hchannels⟩ := hlaw
    obtain ⟨-, -, -, -, -, -, -, hcount, -⟩ := hchannels c
    show Host.Outcome.next (s.closeWindow c words) = _
    rw [State.closeWindow_polled hr hc, State.closePolled_kept (s := s.windowShut r c) hlocked hheard he,
      State.handOver_eq _ c x (by exact hcount)]
    rfl
  case unjudged =>
    show Host.Outcome.next (s.closeWindow c words) = _
    rw [State.closeWindow_polled hr hc, State.closePolled_unjudged (s := s.windowShut r c) hlocked]
    rfl
  case shut => exact congrArg _ (State.closeWindow_not_open h)

/-! ### The search position (R110, R111) -/

theorem State.endDiscovery_onlyNotices (s : State) (found count : Nat) :
    OnlyNotices s (s.endDiscovery found count) (watcherBit 0x20) := by
  have hbit : (Notice.chainDone.bit : Byte) = 0x20 := by decide
  exact hbit ▸ State.raiseWatchers_onlyNotices _ .chainDone

/-- Settles O45: a valid answer locks the entry, and the count or the 64th round ends the discovery. -/
theorem searchWindowOutcome : Obligations.SearchWindowOutcome := by
  intro s c words r count rounds found hcount hr hc hs hd
  have hd' : (s.windowShut r c).scc.discovery = some ⟨count, .search c rounds, found⟩ := hd
  have hrun : exec (.replyWindowClose c words) s = .next ((s.windowShut r c).closeSearch c words) :=
    congrArg _ (State.closeWindow_search hr hc hs)
  refine ⟨r.close c, r.close_shut c, fun w hfirst hpass hecho => ?answer, fun hnone =>
    ⟨fun hlt => ?goesOn, fun hle => ?ends⟩⟩
  case answer =>
    have hw := validAnswer_some hfirst hpass hecho
    by_cases hlt : c.val + 1 < count
    · have hnext : c.val + 1 < 8 := by omega
      rw [State.closeSearch_next (next := ⟨c.val + 1, hnext⟩) hd' hw rfl hlt] at hrun
      refine ⟨_, hrun, rfl, fun next hval _ => ⟨?_, rfl, rfl⟩, fun hle => absurd hlt (Nat.not_lt.mpr hle)⟩
      obtain rfl : next = ⟨c.val + 1, hnext⟩ := Fin.ext hval
      rfl
    · rw [State.closeSearch_last hd' hw (Nat.not_lt.mp hlt)] at hrun
      exact ⟨_, hrun, rfl, fun next _ hlt' => absurd hlt' hlt, fun _ => ⟨rfl, rfl, State.endDiscovery_onlyNotices _ _ _⟩⟩
  case goesOn =>
    rw [State.closeSearch_goes_on hd' (validAnswer_none hnone) hlt] at hrun
    exact hrun
  case ends =>
    rw [State.closeSearch_ends hd' (validAnswer_none hnone) hle] at hrun
    exact ⟨_, hrun, rfl, State.endDiscovery_onlyNotices _ _ _⟩

/-! ### A node lost (R104, R128, R129) -/

/-- Only the sixteenth failed round in a row loses a node (R104). -/
theorem Heard.lost {e e' : NodeEntry} {x : Option Int} (h : Heard e c words e' x) (he : e.state ≠ .lost)
    (hlost : e'.state = .lost) : e'.miss = 16 ∧ 15 ≤ e.miss := by
  have hfailed : ∀ f : NodeEntry, f.state = e.state → f.miss = e.miss → f.failed.state = .lost →
      f.failed.miss = 16 ∧ 15 ≤ e.miss := fun f hstate hmiss hf => by
    unfold NodeEntry.failed at hf ⊢
    dsimp only at hf ⊢
    split at hf
    · omega
    · exact absurd (hstate ▸ hf) he
  cases h with
  | good => exact absurd hlost he
  | bad | early | late | silent => exact hfailed _ rfl rfl hlost

end

end Sys2Proof.Machine
end

section
/-! PROOFS. Events that change one channel entry, with and without a report, and the loss of a node. -/

namespace Sys2Proof.Machine

section
variable {s u : State} {c : Channel} {d : ChannelEntry}

/-! ### One changed channel entry (R128) -/

/-- A re-evaluation finds nothing to change where the limit chain is in order (R38, R43). -/
theorem LimitLaw.retargeted_self (h : LimitLaw u) : Retargeted u u :=
  ⟨rfl, fun k => ⟨h.2 k, (Nat.min_eq_left (h.2 k).2.1).symm⟩⟩

theorem limitFalls_self (u : State) : limitFalls u u = quiet := by
  funext l
  simp [limitFalls, limitBit, quiet]

theorem raisedBoth_quiet_right (f : LaneState → Byte) : raisedBoth f quiet = f := by
  funext l
  simp [raisedBoth, quiet]

theorem OnlyNotices.refl (u : State) : OnlyNotices u u quiet := fun _ => (LaneState.or_zero_notices _).symm

theorem vibMoves_eq_quiet (h : (u.vlu.channels.get c).state = (s.vlu.channels.get c).state) : vibMoves s u c = quiet :=
  if_pos h

theorem vibMoves_eq_watchers (h : (u.vlu.channels.get c).state ≠ (s.vlu.channels.get c).state) :
    vibMoves s u c = watcherBit 0x04 := if_neg h

/-- What follows an event that has changed the entry of channel c and reports nothing (R128). -/
theorem channelSettled_noteMove (hlaw : LimitLaw s) (hslu : u.slu = s.slu) (hdrive : u.rc.drive = s.rc.drive)
    (hchannels : u.vlu.channels = s.vlu.channels.set c d) (hconfig : d.config = (s.vlu.channels.get c).config) :
    ChannelSettled s u (u.noteMove c (s.vlu.channels.get c).state) c := by
  unfold State.noteMove
  split
  case isTrue hsame =>
    have hderates : ∀ k j, (u.vlu.channels.get j).derates k = (s.vlu.channels.get j).derates k := fun k j => by
      rw [hchannels, Eight.get_set_self] at hsame
      rw [hchannels, Eight.get_set]
      split
      · rename_i hj
        rw [hj, ChannelEntry.derates_congr hconfig hsame]
      · rfl
    have hkept : LimitLaw u := hlaw.congr hslu fun k =>
      State.targetOf_congr k (by rw [hslu]) (by rw [hslu]) (by rw [hslu]) (by rw [hslu]) hdrive (hderates k)
    refine ⟨rfl, hkept.retargeted_self, ?_⟩
    rw [vibMoves_eq_quiet hsame, limitFalls_self, raisedBoth_quiet]
    exact .refl u
  case isFalse hmoved =>
    obtain ⟨heq, hretargeted, hnotices⟩ := u.channelMoved_spec (by rw [hslu]; exact hlaw.clamped)
    exact ⟨heq, hretargeted, by rwa [vibMoves_eq_watchers hmoved]⟩

/-- At rest a re-evaluation changes nothing (R39, R41). -/
theorem ShareLimit.atRest_retargeted (u : ShareLimit) (k : Pinion) : u.atRest.retargeted k 0 = u.atRest := by
  rw [ShareLimit.retargeted_up _ _ _ (by simp [ShareLimit.atRest])]
  simp [ShareLimit.atRest]

/-- In TRIPPED, with the limit chain at rest, a channel state change raises VIB_STATE and nothing more (R41, R128). -/
theorem State.noteMove_atRest {t : State} {v : ShareLimit} (hslu : t.slu = v.atRest) (hd : t.rc.drive = .tripped)
    (c : Channel) (before : ChannelState) :
    t.noteMove c before = { t with lanes := (t.noteMove c before).lanes } ∧
      OnlyNotices t (t.noteMove c before)
        (if (t.vlu.channels.get c).state = before then quiet else watcherBit 0x04) := by
  unfold State.noteMove
  split
  case isTrue => exact ⟨rfl, .refl t⟩
  case isFalse =>
    have hbit : (Notice.vibState.bit : Byte) = 0x04 := by decide
    have hzero : ∀ k, (t.raiseWatchers .vibState).targetOf k = 0 := fun k =>
      State.targetOf_eq_zero _ k (by rw [State.raiseWatchers_rc, hd]; rfl)
    have hrest : (t.raiseWatchers .vibState).retarget.slu = t.slu := by
      rw [State.retarget_slu, hzero, hzero, State.raiseWatchers_slu, hslu, ShareLimit.atRest_retargeted,
        ShareLimit.atRest_retargeted]
    have hquiet : OnlyNotices (t.raiseWatchers .vibState) (t.raiseWatchers .vibState).retarget quiet := fun j => by
      rw [State.retarget_lanes, hzero, hzero]
      simp [hslu, ShareLimit.atRest, limitBit, quiet]
    have hboth := (t.raiseWatchers_onlyNotices .vibState).trans hquiet fun _ _ => rfl
    rw [raisedBoth_quiet_right, hbit] at hboth
    refine ⟨?_, hboth⟩
    have heq := (t.raiseWatchers .vibState).retarget_eq
    rw [hrest] at heq
    exact heq

/-- What trip entry does to a lane leaves its role, on which the notices of a channel depend. -/
theorem vibMoves_tripped (l : LaneState) (slot : Option (Fin 8)) :
    vibMoves s u c (l.tripped u slot) = vibMoves s u c l := by
  unfold vibMoves
  split
  · rfl
  · exact watcherBit_congr rfl

/-- What follows an event that has changed the entry of channel c and reports a trip condition (R128, R129). -/
theorem channelReports_noteMove (cause : Cause) (value limit : Nat) (hlaw : LimitLaw s)
    (hnodup : (u.rau.entries.map (·.pinion)).Nodup) (hslu : u.slu = s.slu) (hdrive : u.rc.drive = s.rc.drive)
    (hchannels : u.vlu.channels = s.vlu.channels.set c d) (hconfig : d.config = (s.vlu.channels.get c).config) :
    ChannelReports s u ((u.reportTrip cause value limit none).noteMove c (s.vlu.channels.get c).state) c cause value
      limit := by
  refine ⟨fun hd => ?enters, fun hd => ?offers⟩
  case enters =>
    rw [State.reportTrip_of_ne_tripped (by rwa [hdrive])]
    obtain ⟨hentry, hlanes⟩ := u.enterTrip_spec none hnodup cause value limit
    generalize u.enterTrip cause value limit none = t at *
    obtain ⟨-, -, -, -, -, hvlu, -⟩ := hentry.others
    obtain ⟨heq, hnotices⟩ := State.noteMove_atRest hentry.slu (by rw [hentry.rc]) c (s.vlu.channels.get c).state
    generalize t.noteMove c (s.vlu.channels.get c).state = t' at *
    refine ⟨hentry.transfer rfl rfl heq, fun j => ?_⟩
    have htrc : t'.trc = t.trc := by rw [heq]
    rw [htrc, hnotices j, hlanes j, hvlu, ← vibMoves_tripped]
    rfl
  case offers =>
    rw [State.reportTrip_of_tripped (by rw [hdrive, hd])]
    obtain ⟨hlater, heq⟩ := u.offerLater_spec cause
    generalize u.offerLater cause = t at *
    obtain ⟨hframe, hretargeted, hnotices⟩ := channelSettled_noteMove (u := t) hlaw (by rw [heq]; exact hslu)
      (by rw [heq]; exact hdrive) (by rw [heq]; exact hchannels) hconfig
    generalize t.noteMove c (s.vlu.channels.get c).state = t' at *
    have htrc : t'.trc = t.trc := by rw [hframe]
    have hlater' : LaterCause u t' cause := by
      unfold LaterCause
      rw [htrc]
      exact hlater
    rw [heq] at hframe hretargeted hnotices
    refine ⟨?_, hretargeted, hlater', hnotices⟩
    rw [htrc]
    exact hframe

/-! ### The loss of a node (R104, R129) -/

/-- A loss with trip-on-loss is reported before the move of the channel's state is noted (R128, R129). -/
theorem State.nodeLost_trips (h : (s.vlu.channels.get c).config.enabled = true ∧
    (s.vlu.channels.get c).config.tripOnLoss = true) : s.nodeLost c =
      ((s.updVlu fun v => v.updChannel c ChannelEntry.forget).reportTrip (.chainLoss c) 16 16 none).noteMove c
        (s.vlu.channels.get c).state :=
  congrArg (State.noteMove · c (s.vlu.channels.get c).state) (if_pos h)

theorem State.nodeLost_quiet (h : ¬((s.vlu.channels.get c).config.enabled = true ∧
    (s.vlu.channels.get c).config.tripOnLoss = true)) : s.nodeLost c =
      (s.updVlu fun v => v.updChannel c ChannelEntry.forget).noteMove c (s.vlu.channels.get c).state :=
  congrArg (State.noteMove · c (s.vlu.channels.get c).state) (if_neg h)

/-- Settles O44: the node's loss is settled before the channel's part of it, a report with trip-on-loss. -/
theorem sixteenthFailureLosesTheNode : Obligations.SixteenthFailureLosesTheNode := by
  intro s c words r e x hlaw hrau hr hc hlocked hheard he
  obtain ⟨hmiss, hbefore⟩ := hheard.lost (by rw [hlocked]; decide) he
  have hrun : exec (.replyWindowClose c words) s = .next (((s.windowShut r c).nodeSet c e).nodeLost c) := by
    show Host.Outcome.next (s.closeWindow c words) = _
    rw [State.closeWindow_polled hr hc, State.closePolled_lost (s := s.windowShut r c) hlocked hheard he]
  refine ⟨hmiss, hbefore, r.close c, _, _, r.close_shut c, rfl, hrun, fun henabled htrip => ?reports, fun hquiet => ?settles⟩
  case reports =>
    rw [State.nodeLost_trips (s := (s.windowShut r c).nodeSet c e) ⟨henabled, htrip⟩]
    exact channelReports_noteMove (.chainLoss c) 16 16 hlaw hrau.entries_nodup rfl rfl rfl rfl
  case settles =>
    rw [State.nodeLost_quiet (s := (s.windowShut r c).nodeSet c e) hquiet]
    exact channelSettled_noteMove hlaw rfl rfl rfl rfl

end

end Sys2Proof.Machine
end

section
/-! PROOFS. The channel table in its ranges, and DANGER only in TRIPPED: what the shared operations keep of the laws. -/

namespace Sys2Proof.Machine

/-! ### The laws entry by entry (R119 to R121, R124, R125, R127) -/

/-- The ranges of one channel entry under a window code (R120, R121, R124, R125). -/
structure ChannelEntry.InRange (c : ChannelEntry) (code : Nat) : Prop where
  runA : c.runs.a ≤ 15
  runG : c.runs.g ≤ 15
  runC : c.runs.c ≤ 15
  runCd : c.runs.cd ≤ 15
  suspect : c.suspectRun ≤ 3
  held : c.held.natAbs ≤ 32767
  subs : c.subs ≤ c.count
  count : c.count < windowLength code
  sum : c.s1.natAbs ≤ c.count * 32767
  squares : c.s2 ≤ c.count * (32767 * 32767)

/-- The window settings lie within their ranges (R119). -/
structure Vibration.SettingsInRange (v : Vibration) : Prop where
  code : v.windowCode ≤ 4
  na : 1 ≤ v.na ∧ v.na ≤ 15
  nd : 1 ≤ v.nd ∧ v.nd ≤ 15
  nc : 1 ≤ v.nc ∧ v.nc ≤ 15

theorem vibrationLaw_iff_inRange (s : State) : VibrationLaw s ↔
    s.vlu.SettingsInRange ∧ ∀ i, (s.vlu.channels.get i).InRange s.vlu.windowCode := by
  constructor
  · rintro ⟨hcode, hna, hnd, hnc, hentries⟩
    refine ⟨⟨hcode, hna, hnd, hnc⟩, fun i => ?_⟩
    obtain ⟨ha, hg, hc, hcd, hsuspect, hheld, hsubs, hcount, hsum, hsquares⟩ := hentries i
    exact ⟨ha, hg, hc, hcd, hsuspect, hheld, hsubs, hcount, hsum, hsquares⟩
  · rintro ⟨⟨hcode, hna, hnd, hnc⟩, hentries⟩
    refine ⟨hcode, hna, hnd, hnc, fun i => ?_⟩
    obtain ⟨ha, hg, hc, hcd, hsuspect, hheld, hsubs, hcount, hsum, hsquares⟩ := hentries i
    exact ⟨ha, hg, hc, hcd, hsuspect, hheld, hsubs, hcount, hsum, hsquares⟩

/-- From `s` to `t` the law of the channel table and the law of DANGER are each kept. -/
structure KeepsVibration (s t : State) : Prop where
  ranges : VibrationLaw s → VibrationLaw t
  danger : DangerLaw s → DangerLaw t

namespace KeepsVibration

variable {s t u : State}

theorem refl (s : State) : KeepsVibration s s := ⟨id, id⟩

theorem trans (h : KeepsVibration s t) (h' : KeepsVibration t u) : KeepsVibration s u :=
  ⟨fun hs => h'.ranges (h.ranges hs), fun hs => h'.danger (h.danger hs)⟩

/-- Channels changed entry by entry under the same settings, none of them into DANGER, and TRIPPED not left. -/
theorem of_channels (hv : t.vlu = { s.vlu with channels := t.vlu.channels })
    (hrange : ∀ i, (s.vlu.channels.get i).InRange s.vlu.windowCode → (t.vlu.channels.get i).InRange s.vlu.windowCode)
    (hstate : ∀ i, (t.vlu.channels.get i).state = .danger → (s.vlu.channels.get i).state = .danger)
    (hd : s.rc.drive = .tripped → t.rc.drive = .tripped) : KeepsVibration s t := by
  refine ⟨fun h => ?_, fun h i hi => hd (h i (hstate i hi))⟩
  rw [vibrationLaw_iff_inRange] at h ⊢
  obtain ⟨⟨hcode, hna, hnd, hnc⟩, hentries⟩ := h
  rw [hv]
  exact ⟨⟨hcode, hna, hnd, hnc⟩, fun i => hrange i (hentries i)⟩

/-- The channels as they were, and TRIPPED not left. -/
theorem of_drive (hv : t.vlu = s.vlu) (hd : s.rc.drive = .tripped → t.rc.drive = .tripped) : KeepsVibration s t :=
  of_channels (by rw [hv]) (fun _ => by rw [hv]; exact id) (fun _ => by rw [hv]; exact id) hd

/-- The channels and run control as they were. -/
theorem of_rc (hv : t.vlu = s.vlu) (hrc : t.rc = s.rc) : KeepsVibration s t := of_drive hv fun h => by rw [hrc, h]

/-- An effect followed by an answer. -/
theorem answer (h : KeepsVibration s t) (lane : Lane) (kind : RequestKind) (status : Status) (reply : List Byte) :
    KeepsVibration s (t.answer lane kind status reply) := h.trans (.of_rc rfl rfl)

/-- An effect followed by a notice on every lane. -/
theorem raiseAll (h : KeepsVibration s t) (k : Notice) : KeepsVibration s (t.raiseAll k) := h.trans (.of_rc rfl rfl)

/-- Every reset leaves entries that a reset leaves, all of them UNKNOWN (R132). -/
theorem of_reset {configs : Eight ChannelConfig} (hv : t.vlu = .reset configs) : KeepsVibration s t := by
  have hentry : ∀ i, t.vlu.channels.get i = .reset (configs.get i) := fun i => by
    rw [hv]
    exact Eight.get_map ..
  refine ⟨fun _ => ?_, fun _ i hi => ?_⟩
  · rw [vibrationLaw_iff_inRange]
    refine ⟨?_, fun i => ?_⟩
    · rw [hv]
      constructor <;> simp [Vibration.reset]
    · rw [hentry, hv]
      constructor <;> simp [ChannelEntry.reset, RunCounters.zero, windowLength]
  · rw [hentry] at hi
    cases hi

theorem foldl {α : Type} {f : State → α → State} (hf : ∀ s x, KeepsVibration s (f s x)) (l : List α) (s : State) :
    KeepsVibration s (l.foldl f s) := by
  induction l generalizing s with
  | nil => exact refl s
  | cons x l ih => exact (hf s x).trans (ih _)

end KeepsVibration

section
variable (s : State)

/-! ### Reports and the leaving of regulation (R9, R14, R15, R17) -/

theorem foldl_vlu {α : Type} {f : State → α → State} (hf : ∀ u x, (f u x).vlu = u.vlu) (l : List α) (u : State) :
    (l.foldl f u).vlu = u.vlu := by
  induction l generalizing u with
  | nil => rfl
  | cons x l ih => rw [List.foldl_cons, ih, hf]

theorem State.enterTrip_vlu (cause : Cause) (value limit : Nat) (trigger : Option Entry) :
    (s.enterTrip cause value limit trigger).vlu = s.vlu := by
  have hrecords : ∀ l u, (List.foldl State.abandonAtTrip u l).vlu = u.vlu := foldl_vlu fun _ _ => rfl
  have hreplies : ∀ l u, (List.foldl (State.replyAbandoned true) u l).vlu = u.vlu := foldl_vlu fun _ _ => rfl
  simp [State.enterTrip, hrecords, hreplies]

theorem State.reportTrip_vlu (cause : Cause) (value limit : Nat) (trigger : Option Entry) :
    (s.reportTrip cause value limit trigger).vlu = s.vlu := by
  unfold State.reportTrip
  split
  · exact s.offerLater_vlu cause
  · exact s.enterTrip_vlu ..

/-- A report leaves the channels as they were and the drive in TRIPPED (R15, R17). -/
theorem State.reportTrip_keepsVibration (cause : Cause) (value limit : Nat) (trigger : Option Entry) :
    KeepsVibration s (s.reportTrip cause value limit trigger) :=
  .of_drive (s.reportTrip_vlu ..) fun _ => s.reportTrip_drive ..

/-- HALT or READY entered from a state other than TRIPPED (R9). -/
theorem State.enterRest_keepsVibration (d : DriveState) (h : s.rc.drive ≠ .tripped) : KeepsVibration s (s.enterRest d) :=
  .of_drive (s.enterRest_vlu d) fun ht => absurd ht h

theorem State.endStop_keepsVibration (h : s.rc.drive ≠ .tripped) : KeepsVibration s s.endStop := by
  have hrecords := KeepsVibration.foldl (f := State.abandonAtStop) (fun u e => .of_rc (u.abandonAtStop_vlu e)
    (u.abandonAtStop_rc e)) s.rau.entries (s.enterRest .ready)
  have hreplies := KeepsVibration.foldl (f := State.replyAbandoned false) (fun _ _ => .of_rc rfl rfl)
    s.rau.entries (s.rau.entries.foldl State.abandonAtStop (s.enterRest .ready))
  exact (((s.enterRest_keepsVibration .ready h).trans hrecords).trans hreplies).raiseAll .state

/-- A move of the drive state that does not leave TRIPPED (R1). -/
theorem State.moveTo_keepsVibration (d : DriveState) (h : s.rc.drive ≠ .tripped) : KeepsVibration s (s.moveTo d) :=
  .of_drive (s.moveTo_vlu d) fun ht => absurd ht h

/-! ### An arriving SAMPLE (R10, R13, R26, R80 to R89) -/

theorem State.checkFault_keepsVibration (e : Entry) (fault : Bool) : KeepsVibration s (s.checkFault e fault) := by
  unfold State.checkFault
  split
  · exact s.reportTrip_keepsVibration ..
  · exact .refl s

theorem State.checkReady_keepsVibration (e : Entry) (ready : Bool) : KeepsVibration s (s.checkReady e ready) := by
  unfold State.checkReady
  split
  · exact s.reportTrip_keepsVibration ..
  · exact .refl s

theorem State.checkOvercurrent_keepsVibration (e : Entry) : KeepsVibration s (s.checkOvercurrent e) := by
  unfold State.checkOvercurrent
  split
  · exact s.reportTrip_keepsVibration ..
  · exact .refl s

theorem State.updDwu_keepsVibration (f : DriveWatch → DriveWatch) : KeepsVibration s (s.updDwu f) := .of_rc rfl rfl

theorem State.checkOverload_keepsVibration (e : Entry) : KeepsVibration s (s.checkOverload e) := by
  unfold State.checkOverload
  dsimp only
  split
  · split
    · exact (s.updDwu_keepsVibration _).trans (State.reportTrip_keepsVibration ..)
    · exact s.updDwu_keepsVibration _
  · exact .refl s

theorem State.checkImbalance_keepsVibration (e : Entry) : KeepsVibration s (s.checkImbalance e) := by
  unfold State.checkImbalance
  dsimp only
  split
  · split
    · exact (s.updDwu_keepsVibration _).trans (State.reportTrip_keepsVibration ..)
    · exact s.updDwu_keepsVibration _
  · exact .refl s

theorem State.checkSample_keepsVibration (e : Entry) (ready fault : Bool) :
    KeepsVibration s (s.checkSample e ready fault) :=
  ((((State.checkFault_keepsVibration ..).trans (State.checkReady_keepsVibration ..)).trans
    (State.checkOvercurrent_keepsVibration ..)).trans (State.checkOverload_keepsVibration ..)).trans
    (State.checkImbalance_keepsVibration ..)

theorem State.zeroSpeedTest_keepsVibration : KeepsVibration s s.zeroSpeedTest := by
  unfold State.zeroSpeedTest
  split
  · rename_i h
    exact s.endStop_keepsVibration (by rw [h.1]; decide)
  · exact .refl s

theorem State.takeDemand_keepsVibration (k : Pinion) (demand : Option Word16) :
    KeepsVibration s (s.takeDemand k demand) := by
  unfold State.takeDemand
  split
  · split
    · exact .of_rc rfl rfl
    · exact .refl s
  · exact .refl s

theorem State.regulate_keepsVibration (lane : Lane) (e : Entry) (tripped : Bool) :
    KeepsVibration s (s.regulate lane e tripped) := by
  unfold State.regulate
  split
  · exact .of_rc (s.enterRau_vlu e) (s.enterRau_rc e)
  · cases tripped
    · exact .of_rc (s.writeRecord_vlu ..) (s.writeRecord_rc ..)
    · exact .of_rc rfl rfl

theorem State.takeSample_keepsVibration (lane : Lane) (iMeas n : Word16) (counter bridge : Byte)
    (demand : Option Word16) : KeepsVibration s (s.takeSample lane iMeas n counter bridge demand) := by
  unfold State.takeSample
  split
  · rename_i k _
    have harrive : KeepsVibration s (s.arrive k ⟨iMeas, n, bridge.getLsbD 0, bridge.getLsbD 1⟩) := .of_drive rfl id
    exact (((harrive.trans (State.checkSample_keepsVibration ..)).trans (State.zeroSpeedTest_keepsVibration _)).trans
      (State.takeDemand_keepsVibration ..)).trans (State.regulate_keepsVibration ..)
  · exact .refl s

/-! ### The requests of run control (R3 to R6, R19, R20) -/

theorem State.answer_keepsVibration (lane : Lane) (kind : RequestKind) (status : Status) (reply : List Byte) :
    KeepsVibration s (s.answer lane kind status reply) := .of_rc rfl rfl

theorem State.ackTrip_keepsVibration (lane : Lane) : KeepsVibration s (s.ackTrip lane) := by
  unfold State.ackTrip
  split
  · split
    · exact .of_drive rfl id
    · exact .refl s
  · exact s.answer_keepsVibration ..

theorem State.arm_keepsVibration (lane : Lane) : KeepsVibration s (s.arm lane) := by
  unfold State.arm
  split
  · exact s.answer_keepsVibration ..
  · rename_i hd
    split
    · exact s.answer_keepsVibration ..
    · split
      · exact s.answer_keepsVibration ..
      · exact (s.moveTo_keepsVibration .ready (by rw [not_not.mp hd]; decide)).answer ..

theorem State.disarm_keepsVibration (lane : Lane) : KeepsVibration s (s.disarm lane) := by
  unfold State.disarm
  split
  · exact s.answer_keepsVibration ..
  · rename_i hd
    have hrest := s.enterRest_keepsVibration .halt (by rw [not_not.mp hd]; decide)
    exact (hrest.raiseAll .state).answer ..

theorem State.start_keepsVibration (lane : Lane) : KeepsVibration s (s.start lane) := by
  unfold State.start
  split
  · exact s.answer_keepsVibration ..
  · rename_i h
    have hmove := (s.updDwu DriveWatch.clearImbalance).moveTo_keepsVibration .run
      (by rw [State.updDwu_rc, State.ready_of_startRefusal_none h]; decide)
    exact ((s.updDwu_keepsVibration _).trans hmove).answer ..

theorem State.inching_keepsVibration (lane : Lane) : KeepsVibration s (s.inching lane) := by
  unfold State.inching
  split
  · exact s.answer_keepsVibration ..
  · rename_i h
    exact (s.moveTo_keepsVibration .inch (by rw [State.ready_of_startRefusal_none h]; decide)).answer ..

theorem State.stop_keepsVibration (lane : Lane) : KeepsVibration s (s.stop lane) := by
  have hmove : ∀ u : State, KeepsVibration s u → u.rc.drive = s.rc.drive → s.rc.drive ≠ .tripped →
      KeepsVibration s ((u.moveTo .stopping).answer lane .stop .ok []) := fun u hu hd hn =>
    (hu.trans (u.moveTo_keepsVibration .stopping (by rwa [hd]))).answer ..
  have htimer : KeepsVibration s s.startStopTimer := .of_drive rfl id
  unfold State.stop
  split
  · rename_i hd
    exact hmove _ htimer rfl (by rw [hd]; decide)
  · rename_i hd
    exact hmove _ (htimer.trans (State.updDwu_keepsVibration ..)) rfl (by rw [hd]; decide)
  all_goals exact s.answer_keepsVibration ..

/-- No channel is in DANGER where CLEAR TRIP finds no active cause (R20). -/
theorem State.not_danger_of_clearRefusal_none {s : State} (h : s.clearRefusal = none) (c : Channel) :
    (s.vlu.channels.get c).state ≠ .danger := fun hc => by
  have hcause : s.activeCause = true := (causeActive_iff s).mp (.inl ⟨c, hc⟩)
  unfold State.clearRefusal at h
  split_ifs at h

/-- TRIPPED is left with no channel in DANGER (R20, R127). -/
theorem State.clearTrip_keepsVibration (lane : Lane) : KeepsVibration s (s.clearTrip lane) := by
  unfold State.clearTrip
  split
  · exact s.answer_keepsVibration ..
  · rename_i h
    have hv : ((s.updRc RunControl.clearAcks).enterRest .halt).vlu = s.vlu := State.enterRest_vlu ..
    have hrest : KeepsVibration s ((s.updRc RunControl.clearAcks).enterRest .halt) := by
      refine ⟨fun hs => ?_, fun _ c hc => ?_⟩
      · rw [vibrationLaw_iff_inRange] at hs ⊢
        rwa [hv]
      · rw [hv] at hc
        exact absurd hc (State.not_danger_of_clearRefusal_none h c)
    exact (hrest.raiseAll .state).answer ..

end

end Sys2Proof.Machine
end

section
/-! PROOFS. The channel table in its ranges, and DANGER only in TRIPPED: what the events and settings of channels keep. -/

namespace Sys2Proof.Machine

/-! ### Single entries (R118 to R122, R124 to R126, R129) -/

namespace ChannelEntry.InRange

variable {c : ChannelEntry} {code : Nat}

/-- A window emptied is shorter than any W (R119). -/
theorem emptied (h : c.InRange code) (code' : Nat) : c.emptied.InRange code' :=
  { h with
    subs := Nat.zero_le _, count := Nat.two_pow_pos _, sum := Nat.zero_le _, squares := Nat.zero_le _ }

theorem forgotten (h : c.InRange code) : c.forgotten.InRange code where
  runA := Nat.zero_le _
  runG := Nat.zero_le _
  runC := Nat.zero_le _
  runCd := Nat.zero_le _
  suspect := Nat.zero_le _
  held := h.held
  subs := Nat.zero_le _
  count := Nat.two_pow_pos _
  sum := Nat.zero_le _
  squares := Nat.zero_le _

theorem withConfig (h : c.InRange code) (g : ChannelConfig) : { c with config := g }.InRange code := { h with }

/-- A value of at most ±32767 joins the sums; the value that fills the window empties it (R120 to R122). -/
theorem handed (h : c.InRange code) {x : Option Int} (hx : ∀ v, x = some v → v.natAbs ≤ 32767) :
    (c.handed x code).InRange code := by
  have hv : (x.getD c.held).natAbs ≤ 32767 := by
    cases x with
    | none => exact h.held
    | some v => exact hx v rfl
  have hsquare := Nat.mul_le_mul hv hv
  have hcount := h.count
  unfold windowLength windowLog at hcount
  unfold ChannelEntry.handed
  dsimp only
  split
  · exact { h with
      held := hv, subs := Nat.zero_le _, count := Nat.two_pow_pos _, sum := Nat.zero_le _, squares := Nat.zero_le _ }
  · have hsubs := h.subs
    have hsum := h.sum
    have hsquares := h.squares
    exact { h with
      held := hv
      subs := by dsimp only; split <;> omega
      count := by unfold windowLength windowLog; dsimp only; omega
      sum := by dsimp only; omega
      squares := by dsimp only; omega }

end ChannelEntry.InRange

theorem counted_le (p : Prop) [Decidable p] (n : Nat) : counted p n ≤ 15 := by
  unfold counted
  split <;> omega

/-- The completion of a level computation moves the run counters and the suspect count only (R124, R125). -/
theorem LevelWritten.inRange {v : Vibration} {c d : ChannelEntry} {l : LevelComputation} {time : Word32} {code : Nat}
    (h : LevelWritten v c d l time) (hc : c.InRange code) : d.InRange code := by
  obtain ⟨rms, -, hsuspect, hgood⟩ := h
  rcases Nat.lt_or_ge (2 ^ (6 + l.code)) (4 * l.subs) with hlt | hle
  · rw [hsuspect hlt]
    by_cases hunknown : 3 ≤ c.suspectRun + 1 ∧ c.state ≠ .unknown
    · simp only [if_pos hunknown]
      exact { hc with
        runA := Nat.zero_le _, runG := Nat.zero_le _, runC := Nat.zero_le _, runCd := Nat.zero_le _
        suspect := Nat.min_le_right .. }
    · simp only [if_neg hunknown]
      exact { hc with suspect := Nat.min_le_right .. }
  · obtain ⟨state, -, hd⟩ := hgood hle
    rw [hd]
    exact { hc with
      runA := counted_le .., runG := counted_le .., runC := counted_le .., runCd := counted_le ..
      suspect := Nat.zero_le _ }

section
variable {s t : State} {c : Channel} {d : ChannelEntry}

theorem VibrationLaw.entry (h : VibrationLaw s) (c : Channel) : (s.vlu.channels.get c).InRange s.vlu.windowCode :=
  ((vibrationLaw_iff_inRange s).mp h).2 c

/-- One entry replaced by one in its ranges. -/
theorem VibrationLaw.set_entry (h : VibrationLaw s) (hv : t.vlu = { s.vlu with channels := s.vlu.channels.set c d })
    (hd : d.InRange s.vlu.windowCode) : VibrationLaw t := by
  rw [vibrationLaw_iff_inRange] at h ⊢
  obtain ⟨⟨hcode, hna, hnd, hnc⟩, hentries⟩ := h
  rw [hv]
  refine ⟨⟨hcode, hna, hnd, hnc⟩, fun i => ?_⟩
  show ((s.vlu.channels.set c d).get i).InRange _
  rw [Eight.get_set]
  split
  · exact hd
  · exact hentries i

/-- One entry changed, not into DANGER, and TRIPPED not left. -/
theorem KeepsVibration.of_entry (hv : t.vlu = { s.vlu with channels := s.vlu.channels.set c d })
    (hrange : VibrationLaw s → d.InRange s.vlu.windowCode)
    (hstate : d.state = .danger → (s.vlu.channels.get c).state = .danger)
    (hdrive : s.rc.drive = .tripped → t.rc.drive = .tripped) : KeepsVibration s t := by
  refine ⟨fun h => h.set_entry hv (hrange h), fun h i hi => hdrive ?_⟩
  rw [hv] at hi
  replace hi : ((s.vlu.channels.set c d).get i).state = .danger := hi
  rw [Eight.get_set] at hi
  split at hi
  · exact h c (hstate hi)
  · exact h i hi

end

section
variable (s : State)

/-! ### Channel events (R120 to R129) -/

theorem State.retarget_keepsVibration : KeepsVibration s s.retarget := .of_rc s.retarget_vlu s.retarget_rc

theorem State.noteMove_keepsVibration (c : Channel) (before : ChannelState) :
    KeepsVibration s (s.noteMove c before) := by
  unfold State.noteMove
  split
  · exact .refl s
  · exact .of_rc (State.retarget_vlu _) (State.retarget_rc _)

/-- The part once channel c's entry is what the completion of its level computation makes it (R124 to R126). -/
def State.levelWritten (s : State) (c : Channel) (l : LevelComputation) : State :=
  s.updVlu fun v => v.updChannel c fun _ => s.vlu.completeLevel (s.vlu.channels.get c) l s.tbu.time

/-- A completion that moves the channel into DANGER reports it before the move is noted (R127, R128). -/
theorem State.levelCompletes_reports {c : Channel} {l : LevelComputation}
    (h : (s.vlu.completeLevel (s.vlu.channels.get c) l s.tbu.time).state = .danger ∧
      (s.vlu.channels.get c).state ≠ .danger) : s.levelCompletes c l =
      ((s.levelWritten c l).reportTrip (.vibDanger c) l.rms
        (s.vlu.completeLevel (s.vlu.channels.get c) l s.tbu.time).config.danger none).noteMove c
        (s.vlu.channels.get c).state :=
  congrArg (State.noteMove · c (s.vlu.channels.get c).state) (if_pos h)

theorem State.levelCompletes_quiet {c : Channel} {l : LevelComputation}
    (h : ¬((s.vlu.completeLevel (s.vlu.channels.get c) l s.tbu.time).state = .danger ∧
      (s.vlu.channels.get c).state ≠ .danger)) :
    s.levelCompletes c l = (s.levelWritten c l).noteMove c (s.vlu.channels.get c).state :=
  congrArg (State.noteMove · c (s.vlu.channels.get c).state) (if_neg h)

/-- A level computation that moves a channel into DANGER trips the drive or finds it in TRIPPED (R127). -/
theorem State.levelCompletes_keepsVibration (c : Channel) (l : LevelComputation) :
    KeepsVibration s (s.levelCompletes c l) := by
  have hwritten := s.vlu.completeLevel_spec (s.vlu.channels.get c) l s.tbu.time
  have hrange := fun h : VibrationLaw s => hwritten.inRange (h.entry c)
  by_cases h : (s.vlu.completeLevel (s.vlu.channels.get c) l s.tbu.time).state = .danger ∧
      (s.vlu.channels.get c).state ≠ .danger
  case pos =>
    rw [s.levelCompletes_reports h]
    exact KeepsVibration.trans
      ⟨fun hs => hs.set_entry (State.reportTrip_vlu ..) (hrange hs), fun _ _ _ => State.reportTrip_drive ..⟩
      (State.noteMove_keepsVibration ..)
  case neg =>
    have hentry : KeepsVibration s (s.levelWritten c l) :=
      .of_entry rfl hrange (fun hd => not_not.mp fun hbefore => h ⟨hd, hbefore⟩) id
    rw [s.levelCompletes_quiet h]
    exact hentry.trans (State.noteMove_keepsVibration ..)

theorem State.levelComputationCompletes_keepsVibration (c : Channel) :
    KeepsVibration s (s.levelComputationCompletes c) := by
  unfold State.levelComputationCompletes
  split
  · exact s.levelCompletes_keepsVibration ..
  · exact .refl s

theorem State.nodeLost_keepsVibration (c : Channel) : KeepsVibration s (s.nodeLost c) := by
  have hforget : KeepsVibration s (s.updVlu fun v => v.updChannel c ChannelEntry.forget) :=
    .of_entry rfl (fun h => (h.entry c).forgotten) (fun hd => nomatch hd) id
  unfold State.nodeLost
  dsimp only
  split
  · exact (hforget.trans (State.reportTrip_keepsVibration ..)).trans (State.noteMove_keepsVibration ..)
  · exact hforget.trans (State.noteMove_keepsVibration ..)

/-- A hand-over of a value of at most ±32767 (R99, R120 to R122). -/
theorem State.handOver_keepsVibration (c : Channel) {x : Option Int} (hx : ∀ v, x = some v → v.natAbs ≤ 32767) :
    KeepsVibration s (s.handOver c x) := by
  unfold State.handOver
  split
  · cases x with
    | none =>
      refine .of_entry (d := (s.vlu.channels.get c).failedSample s.vlu.windowCode) rfl (fun h => ?_)
        (ChannelEntry.endWindow_kept ..).2.symm.trans id
      rw [ChannelEntry.failedSample_eq _ _ (h.entry c).count]
      exact (h.entry c).handed hx
    | some x =>
      refine .of_entry (d := (s.vlu.channels.get c).goodSample x s.vlu.windowCode) rfl (fun h => ?_)
        (ChannelEntry.endWindow_kept ..).2.symm.trans id
      rw [ChannelEntry.goodSample_eq _ _ _ (h.entry c).count]
      exact (h.entry c).handed hx
  · exact .refl s

/-! ### The chain's events (R95, R97, R99, R102 to R104, R110, R111) -/

theorem sampleValue_bound (w : Word16) : (sampleValue w).natAbs ≤ 32767 := by
  unfold sampleValue clampInt
  omega

/-- The value of a good sample is a decoded one (R99, R102). -/
theorem NodeEntry.receive_value_bound (e : NodeEntry) (c : Fin 8) (words : List ChainWord) (v : Int)
    (h : (e.receive c words).value = some v) : v.natAbs ≤ 32767 := by
  cases hreceive : e.receive c words with
  | good x =>
    rw [hreceive] at h
    cases h
    unfold NodeEntry.receive at hreceive
    split at hreceive
    · cases hreceive
    · split_ifs at hreceive
      cases hreceive
      exact sampleValue_bound _
  | bad | misaligned | missing =>
    rw [hreceive] at h
    cases h

theorem State.closePolled_keepsVibration (c : Fin 8) (words : List ChainWord) :
    KeepsVibration s (s.closePolled c words) := by
  have hnode : ∀ e, KeepsVibration s (s.updScc fun n => n.setNode c e) := fun _ => .of_rc rfl rfl
  unfold State.closePolled
  dsimp only
  split
  · split
    · exact (hnode _).trans (State.nodeLost_keepsVibration ..)
    · exact (hnode _).trans (State.handOver_keepsVibration _ _ (NodeEntry.receive_value_bound _ _ _))
  · exact .refl s

theorem State.closeSearch_keepsVibration (c : Fin 8) (words : List ChainWord) :
    KeepsVibration s (s.closeSearch c words) := by
  have hlock : ∀ d w, KeepsVibration s (s.lockPosition d c w) := fun d w => by
    unfold State.lockPosition
    dsimp only
    split <;> exact .of_rc rfl rfl
  have hmiss : ∀ d rounds, KeepsVibration s (s.missSearch d c rounds) := fun d rounds => by
    unfold State.missSearch
    split <;> exact .of_rc rfl rfl
  unfold State.closeSearch
  split
  · exact .refl s
  · split
    · exact .refl s
    · split
      · split
        · exact hlock ..
        · exact hmiss ..
      · exact .refl s

theorem State.closeWindow_keepsVibration (c : Fin 8) (words : List ChainWord) :
    KeepsVibration s (s.closeWindow c words) := by
  have hshut : ∀ r, KeepsVibration s (s.windowShut r c) := fun _ => .of_rc rfl rfl
  rcases s.closeWindow_cases c words with heq | ⟨r, -, ⟨-, heq⟩ | ⟨-, -, heq⟩⟩
  · rw [heq]
    exact .refl s
  · rw [heq]
    exact (hshut r).trans (State.closePolled_keepsVibration ..)
  · rw [heq]
    exact (hshut r).trans (State.closeSearch_keepsVibration ..)

theorem State.roundTimer_keepsVibration : KeepsVibration s s.roundTimer := by
  rw [State.roundTimer_eq]
  split
  · exact .refl s
  · exact .of_rc rfl rfl

/-! ### The plant's settings (R53, R59, R85, R117 to R119, R130) -/

theorem State.setLimits_keepsVibration (lane : Lane) (plant ceilA ceilB derate inchCeiling rampStep : Word16) :
    KeepsVibration s (s.setLimits lane plant ceilA ceilB derate inchCeiling rampStep) := by
  unfold State.setLimits
  split
  · exact s.answer_keepsVibration ..
  · have hset : KeepsVibration s
        (s.updSlu fun u => u.withSettings plant ceilA ceilB derate inchCeiling rampStep).retarget :=
      .of_rc (State.retarget_vlu _) (State.retarget_rc _)
    exact hset.answer ..

theorem State.setGains_keepsVibration (lane : Lane) (kp ki : Word16) (feedforward : Byte) (uMin uMax : Word16) :
    KeepsVibration s (s.setGains lane kp ki feedforward uMin uMax) := by
  unfold State.setGains
  split <;> exact .of_rc rfl rfl

theorem State.compareOverload_keepsVibration (k : Pinion) : KeepsVibration s (s.compareOverload k) := by
  unfold State.compareOverload
  split
  · exact (s.updDwu_keepsVibration _).trans (State.reportTrip_keepsVibration ..)
  · exact .refl s

theorem State.setWatch_keepsVibration (lane : Lane) (w : WatchSettings) : KeepsVibration s (s.setWatch lane w) :=
  (((s.updDwu_keepsVibration _).trans (State.compareOverload_keepsVibration _ .a)).trans
    (State.compareOverload_keepsVibration _ .b)).answer ..

theorem ChannelEntry.configure_eq (c : ChannelEntry) (g : ChannelConfig) : c.configure g =
    if c.config.enabled = true ∧ g.enabled = false then { c.forgotten with config := g } else { c with config := g } :=
  rfl

theorem ChannelEntry.InRange.configure {c : ChannelEntry} {code : Nat} (h : c.InRange code) (g : ChannelConfig) :
    (c.configure g).InRange code := by
  rw [ChannelEntry.configure_eq]
  split
  · exact h.forgotten.withConfig g
  · exact h.withConfig g

/-- A new configuration moves no channel into DANGER (R118). -/
theorem ChannelEntry.danger_of_configure {c : ChannelEntry} {g : ChannelConfig} (h : (c.configure g).state = .danger) :
    c.state = .danger := by
  rw [ChannelEntry.configure_eq] at h
  split at h
  · cases h
  · exact h

theorem State.setChannel_keepsVibration (lane : Lane) (i : Channel) (g : ChannelConfig) :
    KeepsVibration s (s.setChannel lane i g) := by
  unfold State.setChannel
  split
  · have hconfigured : KeepsVibration s (s.updVlu fun v => v.updChannel i fun c => c.configure g) :=
      .of_entry rfl (fun h => (h.entry i).configure g) ChannelEntry.danger_of_configure id
    exact ((hconfigured.trans (State.noteMove_keepsVibration ..)).trans (State.retarget_keepsVibration _)).answer ..
  · exact s.answer_keepsVibration ..

theorem persistenceOf_bounds (b : Byte) : 1 ≤ persistenceOf b ∧ persistenceOf b ≤ 15 := by
  unfold persistenceOf
  omega

/-- A new W meets empty windows (R119). -/
theorem VibrationLaw.configure {t : State} {window na nd nc : Byte} (h : VibrationLaw s)
    (hv : t.vlu = s.vlu.configure window na nd nc) : VibrationLaw t := by
  rw [vibrationLaw_iff_inRange, hv]
  refine ⟨⟨Nat.min_le_right .., persistenceOf_bounds na, persistenceOf_bounds nd, persistenceOf_bounds nc⟩,
    fun i => ?_⟩
  by_cases hcode : windowOf window = s.vlu.windowCode
  · rw [Vibration.configure_same hcode]
    show (s.vlu.channels.get i).InRange (windowOf window)
    rw [hcode]
    exact h.entry i
  · rw [Vibration.configure_emptied hcode]
    exact (h.entry i).emptied _

theorem Vibration.configure_state (v : Vibration) (window na nd nc : Byte) (i : Channel) :
    ((v.configure window na nd nc).channels.get i).state = (v.channels.get i).state := by
  by_cases hcode : windowOf window = v.windowCode
  · rw [Vibration.configure_same hcode]
  · rw [Vibration.configure_emptied hcode]
    rfl

theorem State.setChain_keepsVibration (lane : Lane) (rate window na nd nc : Byte) :
    KeepsVibration s (s.setChain lane rate window na nd nc) :=
  ⟨fun h => h.configure s rfl, fun h i hi => h i ((s.vlu.configure_state window na nd nc i) ▸ hi)⟩

theorem State.forgetChannels_keepsVibration : KeepsVibration s s.forgetChannels := by
  have hforget : KeepsVibration s (s.updVlu Vibration.forgetEnabled) := by
    refine .of_channels rfl (fun i h => ?_) (fun i hi => ?_) id
    · rw [State.updVlu_vlu, Vibration.forgetEnabled_get]
      split
      · exact h.forgotten
      · exact h
    · rw [State.updVlu_vlu, Vibration.forgetEnabled_get] at hi
      split at hi
      · cases hi
      · exact hi
  unfold State.forgetChannels
  dsimp only
  split
  · exact hforget.trans (.of_rc (State.retarget_vlu _) (State.retarget_rc _))
  · exact hforget.trans (State.retarget_keepsVibration _)

theorem State.discover_keepsVibration (lane : Lane) (count : Byte) : KeepsVibration s (s.discover lane count) := by
  unfold State.discover
  split
  · exact s.answer_keepsVibration ..
  · split
    · exact s.answer_keepsVibration ..
    · have hchain : KeepsVibration s (s.updScc fun n => n.discover (discoveryCountOf count)) := .of_rc rfl rfl
      exact (hchain.trans (State.forgetChannels_keepsVibration _)).answer ..

/-! ### Lanes, cursors and the trip table (R145, R146, R151 to R154, R161, R162, R167) -/

theorem State.readSummary_keepsVibration (lane : Lane) (slot : Byte) (page : Option Byte) :
    KeepsVibration s (s.readSummary lane slot page) := by
  have hmark : ∀ i, KeepsVibration s (s.markRead lane i) := fun i => by
    unfold State.markRead
    split <;> exact .of_rc rfl rfl
  unfold State.readSummary
  split
  · split
    · exact s.answer_keepsVibration ..
    · exact (hmark _).answer ..
  · split <;> exact s.answer_keepsVibration ..

theorem State.release_keepsVibration (lane : Lane) (slot : Byte) : KeepsVibration s (s.release lane slot) := by
  unfold State.release
  split <;> split <;> exact .of_rc rfl rfl

theorem State.setCursor_keepsVibration (lane : Lane) (slot pinion index direction : Byte) :
    KeepsVibration s (s.setCursor lane slot pinion index direction) := by
  unfold State.setCursor
  split
  · exact s.answer_keepsVibration ..
  · dsimp only
    split <;> exact .of_rc rfl rfl

theorem State.readNext_keepsVibration (lane : Lane) : KeepsVibration s (s.readNext lane) := by
  unfold State.readNext
  split <;> exact .of_rc rfl rfl

theorem State.fetchCompletes_keepsVibration (lane : Lane) : KeepsVibration s (s.fetchCompletes lane) := by
  unfold State.fetchCompletes
  split
  · split <;> exact .of_rc rfl rfl
  all_goals exact .refl s

theorem State.ackNotice_keepsVibration (lane : Lane) (kind : Byte) : KeepsVibration s (s.ackNotice lane kind) := by
  unfold State.ackNotice
  dsimp only
  split <;> exact .of_rc rfl rfl

theorem State.closed_keepsVibration (lane : Lane) (bytes : List Byte) :
    KeepsVibration s ((s.openSelection lane).closeSelection lane bytes) :=
  .of_rc (s.openSelection_vlu lane) (s.openSelection_rc lane)

theorem State.endBadFrame_keepsVibration (lane : Lane) (bytes : List Byte) :
    KeepsVibration s (s.endBadFrame lane bytes) := by
  unfold State.endBadFrame
  split
  · exact .refl s
  · dsimp only
    split
    · exact (s.closed_keepsVibration lane bytes).trans (.of_rc rfl rfl)
    · exact s.closed_keepsVibration lane bytes

theorem State.endPending_keepsVibration (lane : Lane) (bytes : List Byte) :
    KeepsVibration s (s.endPending lane bytes) := by
  unfold State.endPending
  dsimp only
  split
  · exact s.closed_keepsVibration lane bytes
  · exact s.closed_keepsVibration lane bytes
  · exact .refl s
  · exact .refl s

/-- A request keeps what its block keeps: every other way it can go touches lanes and the capture only (R161 to R163,
R165). -/
theorem State.request_keepsVibration (lane : Lane) (kind : RequestKind) (payload : List Byte) {body : State → State}
    (h : ∀ u, KeepsVibration u (body u)) : KeepsVibration s (s.request lane kind payload body) := by
  have hclosed := s.closed_keepsVibration lane (requestFrame kind payload)
  unfold State.request State.judge
  dsimp only
  split
  · split
    · exact hclosed.answer ..
    · split
      · exact (hclosed.trans (.of_rc (State.captureRefusal_vlu ..) (State.captureRefusal_rc ..))).answer ..
      · exact hclosed.trans (h _)
  · exact hclosed

/-! ### Resets and timers (R8, R12, R45, R84, R144, R172 to R176) -/

theorem State.plantReset_keepsVibration (lane : Lane) (straps : Straps) :
    KeepsVibration s (s.plantReset lane straps) := by
  unfold State.plantReset
  split
  · exact .of_reset rfl
  · exact s.answer_keepsVibration ..

theorem State.powerUp_keepsVibration (straps : Straps) (pinLow : Bool) :
    KeepsVibration s (s.powerUp straps pinLow) := by
  unfold State.powerUp
  split <;> exact .of_reset rfl

theorem State.pinReset_keepsVibration : KeepsVibration s s.pinReset := by
  unfold State.pinReset
  split
  · exact .refl s
  all_goals exact .of_reset rfl

theorem State.pinRelease_keepsVibration (straps : Straps) : KeepsVibration s (s.pinRelease straps) := by
  unfold State.pinRelease
  split <;> exact .of_rc rfl rfl

theorem State.endInitialisation_keepsVibration : KeepsVibration s s.endInitialisation := by
  unfold State.endInitialisation
  split <;> exact .of_rc rfl rfl

theorem State.advanceTime_keepsVibration : KeepsVibration s s.advanceTime := by
  unfold State.advanceTime
  split <;> exact .of_rc rfl rfl

theorem State.rampTick_keepsVibration : KeepsVibration s s.rampTick := by
  unfold State.rampTick
  split
  · exact .of_rc (by simp) (by simp)
  · exact .refl s

theorem State.silenceExpires_keepsVibration (k : Pinion) : KeepsVibration s (s.silenceExpires k) := by
  have hsilent : KeepsVibration s (s.updRc fun r => r.silence k) := .of_drive rfl id
  unfold State.silenceExpires
  split
  · exact .refl s
  · dsimp only
    split
    case h_1 => exact hsilent.trans (.of_drive rfl id)
    case h_2 | h_3 | h_4 => exact hsilent.trans (State.reportTrip_keepsVibration ..)
    case h_5 | h_6 => exact hsilent

theorem State.stopExpires_keepsVibration : KeepsVibration s s.stopExpires := by
  have hstopped : KeepsVibration s (s.updRc fun r => { r with stopTimer := none }) := .of_drive rfl id
  unfold State.stopExpires
  split
  · exact .refl s
  · dsimp only
    split
    · exact hstopped.trans (State.reportTrip_keepsVibration ..)
    · exact hstopped

theorem State.postTripExpires_keepsVibration : KeepsVibration s s.postTripExpires := by
  unfold State.postTripExpires
  split
  · split <;> exact .of_rc rfl rfl
  · exact .refl s

theorem State.computationCompletes_keepsVibration : KeepsVibration s s.computationCompletes := by
  unfold State.computationCompletes
  split
  · exact .of_rc (s.completeComputation_vlu _) (s.completeComputation_rc _)
  · exact .refl s

/-! ### Every command -/

theorem exec_keepsVibration (c : Instr) : ∃ t, exec c s = .next t ∧ KeepsVibration s t := by
  cases c with
  | selectionStart lane => exact ⟨_, rfl, .of_rc rfl rfl⟩
  | badFrame lane bytes => exact ⟨_, rfl, s.endBadFrame_keepsVibration ..⟩
  | pendingSelection lane bytes => exact ⟨_, rfl, s.endPending_keepsVibration ..⟩
  | nop | readStatus | readIdent | readLimits | readChannel | readNode | setMask | setShare | setTime | clearCapture
  | clearCauses => exact ⟨_, rfl, s.request_keepsVibration _ _ _ fun _ => .of_rc rfl rfl⟩
  | readTripSummary lane slot page =>
    exact ⟨_, rfl, s.request_keepsVibration _ _ _ fun u => u.readSummary_keepsVibration ..⟩
  | setCursor lane slot pinion index direction =>
    exact ⟨_, rfl, s.request_keepsVibration _ _ _ fun u => u.setCursor_keepsVibration ..⟩
  | readNext lane => exact ⟨_, rfl, s.request_keepsVibration _ _ _ fun u => u.readNext_keepsVibration ..⟩
  | ackNotice lane kind => exact ⟨_, rfl, s.request_keepsVibration _ _ _ fun u => u.ackNotice_keepsVibration ..⟩
  | sample lane iMeas n counter bridge demand =>
    exact ⟨_, rfl, s.request_keepsVibration _ _ _ fun u => u.takeSample_keepsVibration ..⟩
  | ackTrip lane => exact ⟨_, rfl, s.request_keepsVibration _ _ _ fun u => u.ackTrip_keepsVibration ..⟩
  | trip lane =>
    exact ⟨_, rfl, s.request_keepsVibration _ _ _ fun u => (u.reportTrip_keepsVibration ..).answer ..⟩
  | arm lane => exact ⟨_, rfl, s.request_keepsVibration _ _ _ fun u => u.arm_keepsVibration ..⟩
  | disarm lane => exact ⟨_, rfl, s.request_keepsVibration _ _ _ fun u => u.disarm_keepsVibration ..⟩
  | start lane => exact ⟨_, rfl, s.request_keepsVibration _ _ _ fun u => u.start_keepsVibration ..⟩
  | inch lane => exact ⟨_, rfl, s.request_keepsVibration _ _ _ fun u => u.inching_keepsVibration ..⟩
  | stop lane => exact ⟨_, rfl, s.request_keepsVibration _ _ _ fun u => u.stop_keepsVibration ..⟩
  | clearTrip lane => exact ⟨_, rfl, s.request_keepsVibration _ _ _ fun u => u.clearTrip_keepsVibration ..⟩
  | setLimits lane plant ceilA ceilB derate inchCeiling rampStep =>
    exact ⟨_, rfl, s.request_keepsVibration _ _ _ fun u => u.setLimits_keepsVibration ..⟩
  | setGains lane kp ki feedforward uMin uMax =>
    exact ⟨_, rfl, s.request_keepsVibration _ _ _ fun u => u.setGains_keepsVibration ..⟩
  | setWatch lane oc q decay imbalance shift persistence zeroBand zeroSpeed stopTimeout silenceCode =>
    exact ⟨_, rfl, s.request_keepsVibration _ _ _ fun u => u.setWatch_keepsVibration ..⟩
  | setChannel lane channel enabled group alert danger hysteresis tripOnLoss =>
    exact ⟨_, rfl, s.request_keepsVibration _ _ _ fun u => u.setChannel_keepsVibration ..⟩
  | setChain lane rate window na nd nc =>
    exact ⟨_, rfl, s.request_keepsVibration _ _ _ fun u => u.setChain_keepsVibration ..⟩
  | discover lane count => exact ⟨_, rfl, s.request_keepsVibration _ _ _ fun u => u.discover_keepsVibration ..⟩
  | release lane slot => exact ⟨_, rfl, s.request_keepsVibration _ _ _ fun u => u.release_keepsVibration ..⟩
  | reset lane straps => exact ⟨_, rfl, s.request_keepsVibration _ _ _ fun u => u.plantReset_keepsVibration ..⟩
  | powerOn straps pinLow => exact ⟨_, rfl, s.powerUp_keepsVibration ..⟩
  | resetPin => exact ⟨_, rfl, s.pinReset_keepsVibration⟩
  | resetPinRelease straps => exact ⟨_, rfl, s.pinRelease_keepsVibration ..⟩
  | initialisationEnd => exact ⟨_, rfl, s.endInitialisation_keepsVibration⟩
  | timeCountAdvance => exact ⟨_, rfl, s.advanceTime_keepsVibration⟩
  | rampTick => exact ⟨_, rfl, s.rampTick_keepsVibration⟩
  | silenceTimerExpiry pinion => exact ⟨_, rfl, s.silenceExpires_keepsVibration ..⟩
  | stopTimerExpiry => exact ⟨_, rfl, s.stopExpires_keepsVibration⟩
  | postTripTimerExpiry => exact ⟨_, rfl, s.postTripExpires_keepsVibration⟩
  | roundStart => exact ⟨_, rfl, s.roundTimer_keepsVibration⟩
  | replyWindowClose position words => exact ⟨_, rfl, s.closeWindow_keepsVibration ..⟩
  | computationCompletion => exact ⟨_, rfl, s.computationCompletes_keepsVibration⟩
  | levelComputationCompletion channel => exact ⟨_, rfl, s.levelComputationCompletes_keepsVibration ..⟩
  | fetchCompletion lane => exact ⟨_, rfl, s.fetchCompletes_keepsVibration ..⟩

end

/-- Settles O55: every command is a chain of operations of which each keeps both laws. -/
theorem vibrationAndDangerLawsKept : Obligations.VibrationAndDangerLawsKept := by
  intro s t hranges hdanger h
  unfold step at h
  split at h
  · cases h
    exact ⟨hranges, hdanger⟩
  · rename_i c rest _
    have hqueue : KeepsVibration s { s with pending := rest } := .of_rc rfl rfl
    obtain ⟨u, hu, hkeeps⟩ := exec_keepsVibration { s with pending := rest } c
    rw [hu] at h
    cases h
    have hkept := hqueue.trans hkeeps
    exact ⟨hkept.ranges hranges, hkept.danger hdanger⟩

end Sys2Proof.Machine
end

section
/-! PROOFS. What a channel shows, how SET CHANNEL changes it, and the completion of its level computation. -/

namespace Sys2Proof.Machine

/-! ### READ CHANNEL (R131) -/

/-- Flags packed one list after another. -/
theorem packBits_append (l m : List Bool) : packBits (l ++ m) = packBits l ||| packBits m <<< l.length := by
  induction l with
  | nil => simp [packBits]
  | cons b l ih =>
    have hshift : packBits m <<< l.length <<< 1 = packBits m <<< (l.length + 1) := (BitVec.shiftLeft_add ..).symm
    rw [List.cons_append, packBits, packBits, ih, BitVec.shiftLeft_or_distrib, hshift, List.length_cons, BitVec.or_assoc,
      BitVec.or_assoc, BitVec.or_comm (flagByte b)]

theorem Group.code_eq_packBits (g : Group) : g.code = packBits [g.code.getLsbD 0, g.code.getLsbD 1] := by
  cases g <;> decide

theorem ChannelState.code_eq_packBits (x : ChannelState) : x.code = packBits [x.code.getLsbD 0, x.code.getLsbD 1] := by
  cases x <;> decide

/-- The configuration and state byte, bit by bit (Table 6). -/
theorem ChannelEntry.stateByte_hasBits (c : ChannelEntry) : HasBits c.stateByte
    [c.config.enabled, c.config.tripOnLoss, c.config.group.code.getLsbD 0, c.config.group.code.getLsbD 1,
      c.state.code.getLsbD 0, c.state.code.getLsbD 1, c.computation.isSome, c.record.isSome] := by
  have hpacked : c.stateByte = packBits
      ((([c.config.enabled, c.config.tripOnLoss] ++ [c.config.group.code.getLsbD 0, c.config.group.code.getLsbD 1]) ++
        [c.state.code.getLsbD 0, c.state.code.getLsbD 1]) ++ [c.computation.isSome, c.record.isSome]) := by
    rw [packBits_append, packBits_append, packBits_append, ← Group.code_eq_packBits, ← ChannelState.code_eq_packBits]
    rfl
  rw [hpacked]
  exact packBits_hasBits _

theorem byteOf_shiftLeft (high n : Nat) : byteOf high <<< n = byteOf (2 ^ n * high) := by
  refine BitVec.eq_of_toNat_eq ?_
  simp only [byteOf, BitVec.toNat_shiftLeft, BitVec.toNat_ofNat, Nat.shiftLeft_eq, Nat.mod_mul_mod]
  rw [Nat.mul_comm]

/-- Two numbers in one byte, the lower one in its n low bits. -/
theorem byteOf_shiftLeft_or (high : Nat) {n low : Nat} (h : low < 2 ^ n) :
    byteOf high <<< n ||| byteOf low = byteOf (2 ^ n * high + low) := by
  rw [byteOf_shiftLeft, Nat.two_pow_add_eq_or_of_lt h]
  exact BitVec.ofNat_or.symm

theorem nibbles_eq (high : Nat) {low : Nat} (h : low ≤ 15) : nibbles high low = byteOf (16 * high + low) :=
  byteOf_shiftLeft_or (n := 4) high (by omega)

/-- The suspect byte: the count, and the SUSPECT flag of the level record above it (Table 6). -/
theorem ChannelEntry.suspectByte_eq {c : ChannelEntry} (h : c.suspectRun ≤ 3) : c.suspectByte =
    byteOf (c.suspectRun + if (c.record.map (·.suspect)).getD false then 4 else 0) := by
  unfold ChannelEntry.suspectByte
  cases c.record with
  | none => simp
  | some r =>
    have hflag : flagByte r.suspect = byteOf (if r.suspect then 1 else 0) := by cases r.suspect <;> rfl
    dsimp only
    rw [BitVec.or_comm, hflag, byteOf_shiftLeft_or (n := 2) _ (by omega), Nat.add_comm]
    cases hr : r.suspect <;> simp [hr]

theorem Vibration.settingsWord_eq (v : Vibration) :
    be16 v.settingsWord = nat16 (4096 * v.windowCode + 256 * v.na + 16 * v.nd + v.nc) := by
  unfold Vibration.settingsWord nat16
  rw [Nat.mul_comm v.windowCode, Nat.mul_comm v.na, Nat.mul_comm v.nd]

/-- Settles O16: the page field by field; the packed bytes hold their fields apart because the counters are in range. -/
theorem readChannelReply : Obligations.ReadChannelReply := by
  intro s lane b i hlaw h hi
  have hrun := exec_of_takes (i := .readChannel lane b) (payload := [b]) rfl h
  rw [indexOf_eq hi] at hrun
  have ha := answered_of_quiet (s := s) (lane := lane) (kind := .readChannel) (payload := [b]) rfl .ok
    (s.vlu.channelPage i)
  refine ⟨_, (s.vlu.channels.get i).stateByte_hasBits, _, hrun, rfl, ?_⟩
  refine (congrArg (fun page => Answered s ((s.closeSelection lane (requestFrame .readChannel [b])).answer lane
    .readChannel .ok (s.vlu.channelPage i)) lane .readChannel [b] ⟨0x04, .ok, s.rc.drive, page⟩ quiet) ?page).mp ha
  refine congrArg₂ (· ++ ·) (congrArg₂ (· ++ ·) ?entry ?level) s.vlu.settingsWord_eq
  case entry =>
    have hentry := hlaw.entry i
    rw [nibbles_eq _ hentry.runG, nibbles_eq _ hentry.runCd, ChannelEntry.suspectByte_eq hentry.suspect]
  case level => cases (s.vlu.channels.get i).record <;> rfl

/-! ### SET CHANNEL (R117, R118, R128) -/

/-- A recomputation of a target that is in order changes nothing (R38, R43). -/
theorem LimitChain.retargetPinion_eq {s : State} {k : Pinion} (h : LimitChain s k) : s.retargetPinion k = s := by
  obtain ⟨htarget, hle, -⟩ := h
  rw [targetIs_iff] at htarget
  have hstored : s.slu.setTarget k (s.targetOf k) = s.slu := by
    rw [← htarget]
    unfold ShareLimit.setTarget
    rw [Pair.set_get]
  unfold State.retargetPinion
  dsimp only
  rw [if_neg (by omega)]
  exact congrArg (fun v => { s with slu := v }) hstored

theorem Retargeted.retarget_eq {s t : State} (h : Retargeted s t) : t.retarget = t := by
  obtain ⟨-, hchain⟩ := h
  unfold State.retarget
  rw [(hchain .a).1.retargetPinion_eq, (hchain .b).1.retargetPinion_eq]

/-- A re-evaluation after a new configuration of channel c, with VIB_STATE if its state has moved (R118, R128). -/
theorem State.noteMove_retarget_spec (u : State) (c : Channel) (before : ChannelState) (h : u.slu.clamped) :
    ∃ t, (u.noteMove c before).retarget = t ∧ t = { u with lanes := t.lanes, slu := t.slu } ∧ Retargeted u t ∧
      OnlyNotices u t (raisedBoth (if (u.vlu.channels.get c).state = before then quiet else watcherBit 0x04)
        (limitFalls u t)) := by
  refine ⟨_, rfl, ?_⟩
  unfold State.noteMove
  split
  case isTrue =>
    obtain ⟨hretargeted, hnotices⟩ := u.retarget_retargeted h
    rw [raisedBoth_quiet]
    exact ⟨u.retarget_eq, hretargeted, hnotices⟩
  case isFalse =>
    obtain ⟨heq, hretargeted, hnotices⟩ := u.channelMoved_spec h
    rw [hretargeted.retarget_eq]
    exact ⟨heq, hretargeted, hnotices⟩

theorem State.setChannel_range {s : State} {lane : Lane} {i : Channel} {g : ChannelConfig}
    (h : ¬(g.alert < g.danger ∧ g.hysteresis < g.alert)) : s.setChannel lane i g = s.answer lane .setChannel .range [] :=
  if_neg h

/-- Channel i under a new configuration, before the consequences of R128. -/
def State.configured (s : State) (i : Channel) (g : ChannelConfig) : State :=
  s.updVlu fun v => v.updChannel i fun c => c.configure g

theorem State.configured_get (s : State) (i : Channel) (g : ChannelConfig) :
    (s.configured i g).vlu.channels.get i = (s.vlu.channels.get i).configure g := Eight.get_set_self ..

/-- An accepted SET CHANNEL stores the configuration, re-evaluates the targets and echoes the entry (R117, R118, R128). -/
theorem State.setChannel_spec {s : State} (lane : Lane) (i : Channel) {g : ChannelConfig} (hc : s.slu.clamped)
    (h : g.alert < g.danger ∧ g.hysteresis < g.alert) :
    ∃ t, s.setChannel lane i g = t.answer lane .setChannel .ok (((s.vlu.channels.get i).configure g).configBytes i) ∧
      t = { s.configured i g with lanes := t.lanes, slu := t.slu } ∧ Retargeted (s.configured i g) t ∧
      OnlyNotices s t (raisedBoth (vibMoves s (s.configured i g) i) (limitFalls s t)) := by
  obtain ⟨t, ht, heq, hretargeted, hnotices⟩ :=
    (s.configured i g).noteMove_retarget_spec i (s.vlu.channels.get i).state hc
  have hentry : t.vlu.channels.get i = (s.vlu.channels.get i).configure g := by
    rw [heq]
    exact s.configured_get i g
  refine ⟨t, ?_, heq, hretargeted, hnotices⟩
  rw [← hentry, ← ht]
  exact if_pos h

theorem ChannelEntry.configure_config (c : ChannelEntry) (g : ChannelConfig) : (c.configure g).config = g := by
  rw [ChannelEntry.configure_eq]
  split <;> rfl

theorem nat16_toNat (w : Word16) : nat16 w.toNat = be16 w := by
  rw [nat16, BitVec.ofNat_toNat, BitVec.setWidth_eq]

theorem onOf_eq_false_iff (b : Byte) : onOf b = false ↔ b = 0 := by simp [onOf]

theorem onOf_eq_decide (b : Byte) : onOf b = decide (b ≠ 0) := by simp [onOf, bne, Bool.beq_eq_decide_eq]

theorem flagByte_onOf (b : Byte) : flagByte (onOf b) = if b = 0 then 0 else 1 := by
  rw [onOf_eq_decide]
  by_cases hb : b = 0 <;> simp [flagByte, hb]

theorem groupOf_code (b : Byte) : (groupOf b).code = if b = 0 then 0 else if b = 1 then 1 else 2 := by
  unfold groupOf
  (repeat' split) <;> rfl

/-- The echo of a configured entry, field by field (Table 6). -/
theorem ChannelEntry.configure_configBytes (c : ChannelEntry) (i : Channel) (en gr : Byte) (al da hy : Word16)
    (tr : Byte) : (c.configure (configOf en gr al da hy tr)).configBytes i =
      [byteOf i.val, if en = 0 then 0 else 1, if gr = 0 then 0 else if gr = 1 then 1 else 2] ++ be16 al ++ be16 da ++
        be16 hy ++ [if tr = 0 then 0 else 1, (c.configure (configOf en gr al da hy tr)).state.code] := by
  unfold ChannelEntry.configBytes
  rw [ChannelEntry.configure_config]
  unfold configOf
  dsimp only
  rw [flagByte_onOf, flagByte_onOf, groupOf_code, nat16_toNat, nat16_toNat, nat16_toNat]

theorem configOf_eq (en gr : Byte) (al da hy : Word16) (tr : Byte) : configOf en gr al da hy tr =
    ⟨decide (en ≠ 0), if gr = 0 then .a else if gr = 1 then .b else .common, al.toNat, da.toNat, hy.toNat,
      decide (tr ≠ 0)⟩ := by
  rw [← onOf_eq_decide, ← onOf_eq_decide]
  rfl

theorem vibMoves_congr {s u : State} {c : Channel} {l l' : LaneState} (h : l.role = l'.role) :
    vibMoves s u c l = vibMoves s u c l' := by
  unfold vibMoves
  split
  · rfl
  · exact watcherBit_congr h

/-- Settles O32: the check of the limits' order, then the entry's change and its consequences. -/
theorem setChannelByItsTable : Obligations.SetChannelByItsTable := by
  intro s lane ch en gr al da hy tr i hlaw h hi
  obtain rfl := indexOf_eq hi
  refine ⟨fun hrange => refused_of_answer rfl h (State.setChannel_range hrange), fun had hha => ?_⟩
  obtain ⟨t, hset, heq, hretargeted, hnotices⟩ := State.setChannel_spec lane (indexOf ch)
    (g := configOf en gr al da hy tr)
    (s := s.closeSelection lane (requestFrame .setChannel (channelPayload ch en gr al da hy tr))) hlaw.clamped
    ⟨had, hha⟩
  have hrun := exec_eq_of_takes (i := .setChannel lane ch en gr al da hy tr) rfl h hset
  refine ⟨_, s.configured (indexOf ch) (configOf en gr al da hy tr), _, configOf en gr al da hy tr, rfl,
    configOf_eq .., rfl, ?entry, hrun, ?frame, hretargeted, ?lanes⟩
  case entry =>
    exact congrArg (s.vlu.channels.set (indexOf ch))
      (if_congr (and_congr_right fun _ => onOf_eq_false_iff en) rfl rfl)
  case frame =>
    rw [heq]
    rfl
  case lanes =>
    have hdrive : t.rc.drive = s.rc.drive := by rw [heq]; rfl
    rw [← hdrive, State.configured_get, ← ChannelEntry.configure_configBytes]
    refine answered_of_onlyNotices hnotices (fun j => ?_) .ok _
    have hrole := State.closeSelection_role s lane
      (requestFrame .setChannel (channelPayload ch en gr al da hy tr)) j
    exact congrArg₂ (· ||| ·) (vibMoves_congr hrole) (limitBit_congr hrole)

/-! ### LEVEL_COMPUTATION_COMPLETION (R123 to R128) -/

/-- Settles O46: the entry is written first; whether it moved into DANGER decides on the report. -/
theorem levelCompletionUpdatesTheChannel : Obligations.LevelCompletionUpdatesTheChannel := by
  intro s c hlaw hrau
  refine ⟨fun hnone => ?none, fun l hl => ?some⟩
  case none =>
    show Host.Outcome.next (s.levelComputationCompletes c) = _
    unfold State.levelComputationCompletes
    rw [hnone]
  case some =>
    have hrun : exec (.levelComputationCompletion c) s = .next (s.levelCompletes c l) := by
      show Host.Outcome.next (s.levelComputationCompletes c) = _
      unfold State.levelComputationCompletes
      rw [hl]
    have hconfig := s.vlu.completeLevel_config (s.vlu.channels.get c) l s.tbu.time
    refine ⟨s.vlu.completeLevel (s.vlu.channels.get c) l s.tbu.time, _, _, l.rms, s.vlu.completeLevel_spec ..,
      l.rms_spec, rfl, hrun, fun hdanger hbefore => ?reports, fun hquiet => ?settles⟩
    case reports =>
      rw [s.levelCompletes_reports ⟨hdanger, hbefore⟩]
      exact channelReports_noteMove (.vibDanger c) _ _ hlaw hrau.entries_nodup rfl rfl rfl hconfig
    case settles =>
      rw [s.levelCompletes_quiet hquiet]
      exact channelSettled_noteMove hlaw rfl rfl rfl hconfig

end Sys2Proof.Machine
end

section
/-! PROOFS. The trip recorder in order: its rings, its slots and their numbers, and what its operations keep. -/

namespace Sys2Proof.Machine

/-! ### Lists of records in sequence (R133, R134) -/

theorem consecutive_iff_isChain : ∀ l, Consecutive l ↔ l.IsChain fun x y => y.seq = x.seq + 1
  | [] => by simp [Consecutive]
  | [_] => by simp [Consecutive]
  | x :: y :: rest => by
    rw [List.isChain_cons_cons, ← consecutive_iff_isChain (y :: rest)]
    rfl

/-- A record with the next sequence number continues a list that ends before it. -/
theorem Consecutive.concat {l : List Snapshot} {r : Snapshot} (h : Consecutive l) (he : EndsAt l r.seq) :
    Consecutive (l ++ [r]) := by
  rw [consecutive_iff_isChain] at h ⊢
  refine h.append (List.isChain_singleton r) fun x hx y hy => ?_
  obtain rfl : r = y := by simpa using hy
  exact (he x hx).symm

theorem endsAt_concat (l : List Snapshot) (r : Snapshot) : EndsAt (l ++ [r]) (r.seq + 1) := fun x hx => by
  rw [List.getLast?_concat] at hx
  rw [Option.some.inj hx]

theorem Consecutive.lastN {l : List Snapshot} (h : Consecutive l) (n : Nat) : Consecutive (lastN n l) := by
  rw [consecutive_iff_isChain] at h ⊢
  exact h.drop _

theorem EndsAt.lastN {l : List Snapshot} {next : Word16} (h : EndsAt l next) (n : Nat) : EndsAt (lastN n l) next := by
  intro x hx
  rw [Machine.lastN, List.getLast?_drop] at hx
  split at hx
  · cases hx
  · exact h x hx

theorem lastN_length_le {α : Type} (n : Nat) (l : List α) : (lastN n l).length ≤ n := by
  rw [lastN, List.length_drop]
  omega

/-! ### The laws of the recorder as one (R133, R134, R138, R143, R144) -/

/-- One slot's snapshot of pinion k, for a pinion whose next sequence number is `next`. -/
structure Slot.SnapshotInOrder (x : Slot) (k : Pinion) (next : Word16) : Prop where
  pre : (x.record.pre.get k).length ≤ Config.preSize
  post : (x.record.post.get k).length ≤ Config.postSize
  consecutive : Consecutive (x.record.snapshots k)
  ends : x.state = .filling → (x.record.post.get k).length < Config.postSize → EndsAt (x.record.snapshots k) next

/-- The ring of pinion k. -/
structure Recorder.RingInOrder (t : Recorder) (k : Pinion) : Prop where
  length : (t.rings.get k).length ≤ Config.ringSize
  consecutive : Consecutive (t.rings.get k)
  ends : EndsAt (t.rings.get k) (t.nextSeq.get k)

/-- The laws of the trip table and of the snapshots, for a recorder in a drive state. -/
structure Recorder.InOrder (t : Recorder) (d : DriveState) : Prop where
  filling : ∀ i, (t.slots.get i).state = .filling →
    d = .tripped ∧ t.current = some i ∧ (t.slots.get i).record.number = t.tripCount
  timer : t.postTimer = true ↔ ∃ i, (t.slots.get i).state = .filling
  number : ∀ i, (t.slots.get i).state ≠ .free → (t.slots.get i).record.number ≤ t.tripCount
  distinct : ∀ i j, (t.slots.get i).state ≠ .free → (t.slots.get j).state ≠ .free →
    (t.slots.get i).record.number = (t.slots.get j).record.number → i = j
  ring : ∀ k, t.RingInOrder k
  snapshot : ∀ i k, (t.slots.get i).state ≠ .free → (t.slots.get i).SnapshotInOrder k (t.nextSeq.get k)

/-- Where the current trip's record is the only one that may be FILLING, `fillingSlot` finds it. -/
theorem Recorder.fillingSlot_isSome_iff {t : Recorder}
    (h : ∀ i, (t.slots.get i).state = .filling → t.current = some i) :
    t.fillingSlot.isSome = true ↔ ∃ i, (t.slots.get i).state = .filling := by
  rw [Option.isSome_iff_exists]
  constructor
  · rintro ⟨i, hi⟩
    exact ⟨i, (fillingSlot_some hi).2⟩
  · rintro ⟨i, hi⟩
    exact ⟨i, fillingSlot_of (h i hi) hi⟩

theorem recorderInOrder_iff (s : State) : s.trc.InOrder s.rc.drive ↔ TableLaw s ∧ SnapshotLaw s := by
  constructor
  · intro h
    have htimer := h.timer
    rw [← Recorder.fillingSlot_isSome_iff fun i hi => (h.filling i hi).2.1] at htimer
    refine ⟨⟨h.filling, htimer, h.number, h.distinct⟩, fun k => ?_⟩
    obtain ⟨hlength, hconsecutive, hends⟩ := h.ring k
    refine ⟨hlength, hconsecutive, hends, fun i hi => ?_⟩
    obtain ⟨hpre, hpost, hsnapshot, hroom⟩ := h.snapshot i k hi
    exact ⟨hpre, hpost, hsnapshot, hroom⟩
  · rintro ⟨⟨hfilling, htimer, hnumber, hdistinct⟩, hsnapshots⟩
    rw [Recorder.fillingSlot_isSome_iff fun i hi => (hfilling i hi).2.1] at htimer
    refine ⟨hfilling, htimer, hnumber, hdistinct, fun k => ?_, fun i k hi => ?_⟩
    · obtain ⟨hlength, hconsecutive, hends, -⟩ := hsnapshots k
      exact ⟨hlength, hconsecutive, hends⟩
    · obtain ⟨-, -, -, hslots⟩ := hsnapshots k
      obtain ⟨hpre, hpost, hsnapshot, hroom⟩ := hslots i hi
      exact ⟨hpre, hpost, hsnapshot, hroom⟩

/-! ### Records that stay and records that grow (R143, R147) -/

/-- The record keeps its trip number, and its snapshots keep what they hold. -/
structure TripRecord.GrowsTo (x y : TripRecord) : Prop where
  number : y.number = x.number
  snapshots : ∀ k, x.snapshots k <+: y.snapshots k

/-- The slot keeps the number and the snapshots of its record, and is taken or FILLING only if it was. -/
structure Slot.Settles (x y : Slot) : Prop where
  number : y.record.number = x.record.number
  pre : y.record.pre = x.record.pre
  post : y.record.post = x.record.post
  taken : y.state ≠ .free → x.state ≠ .free
  filling : y.state = .filling → x.state = .filling

theorem TripRecord.GrowsTo.refl (x : TripRecord) : x.GrowsTo x := ⟨rfl, fun _ => List.prefix_rfl⟩

theorem Slot.Settles.refl (x : Slot) : x.Settles x := ⟨rfl, rfl, rfl, id, id⟩

theorem Slot.Settles.snapshots {x y : Slot} (h : x.Settles y) (k : Pinion) :
    y.record.snapshots k = x.record.snapshots k := by
  unfold TripRecord.snapshots
  rw [h.pre, h.post]

theorem Slot.Settles.grows {x y : Slot} (h : x.Settles y) : x.record.GrowsTo y.record :=
  ⟨h.number, fun k => by rw [h.snapshots]⟩

/-- A property of one slot's change holds of every slot where only one slot is written. -/
theorem forall_slot_set {p : Slot → Slot → Prop} (hp : ∀ x, p x x) {slots : Eight Slot} {i : Fin 8} {y : Slot}
    (hy : p (slots.get i) y) (j : Fin 8) : p (slots.get j) ((slots.set i y).get j) := by
  rw [Eight.get_set]
  split
  · rename_i hj
    rwa [hj]
  · exact hp _

theorem Slot.SnapshotInOrder.settles {x y : Slot} {k : Pinion} {next next' : Word16} (h : x.SnapshotInOrder k next)
    (hs : x.Settles y) (hnext : y.state = .filling → next' = next) : y.SnapshotInOrder k next' := by
  obtain ⟨hpre, hpost, hconsecutive, hends⟩ := h
  refine ⟨by rwa [hs.pre], by rwa [hs.post], by rwa [hs.snapshots], fun hy hroom => ?_⟩
  rw [hs.snapshots, hnext hy]
  rw [hs.post] at hroom
  exact hends (hs.filling hy) hroom

namespace Recorder.InOrder

variable {t u : Recorder} {d d' : DriveState}

/-- Outside TRIPPED no record is FILLING (R138). -/
theorem not_filling (h : t.InOrder d) (hd : d ≠ .tripped) (i : Fin 8) : (t.slots.get i).state ≠ .filling :=
  fun hi => hd (h.filling i hi).1

theorem appendSlot_eq_none (h : t.InOrder d) (hd : d ≠ .tripped) (k : Pinion) : t.appendSlot k = none := by
  cases hs : t.fillingSlot with
  | none => rw [appendSlot, hs]
  | some i => exact absurd (fillingSlot_some hs).2 (h.not_filling hd i)

/-- The records keep their numbers, none is newly taken or FILLING, and the trip count does not fall. -/
theorem of_numbers (h : t.InOrder d) (hcount : t.tripCount ≤ u.tripCount)
    (hnumber : ∀ i, (u.slots.get i).record.number = (t.slots.get i).record.number)
    (htaken : ∀ i, (u.slots.get i).state ≠ .free → (t.slots.get i).state ≠ .free)
    (hfilling : ∀ i, (u.slots.get i).state = .filling →
      (t.slots.get i).state = .filling ∧ d' = .tripped ∧ u.current = t.current ∧ u.tripCount = t.tripCount)
    (htimer : u.postTimer = true ↔ ∃ i, (u.slots.get i).state = .filling)
    (hring : ∀ k, u.RingInOrder k)
    (hsnapshot : ∀ i k, (u.slots.get i).state ≠ .free → (u.slots.get i).SnapshotInOrder k (u.nextSeq.get k)) :
    u.InOrder d' where
  filling i hi := by
    obtain ⟨hti, hd, hcurrent, hc⟩ := hfilling i hi
    obtain ⟨-, ht, hn⟩ := h.filling i hti
    rw [hcurrent, hnumber, hc]
    exact ⟨hd, ht, hn⟩
  timer := htimer
  number i hi := by
    rw [hnumber]
    exact (h.number i (htaken i hi)).trans hcount
  distinct i j hi hj hij := by
    rw [hnumber, hnumber] at hij
    exact h.distinct i j (htaken i hi) (htaken j hj) hij
  ring := hring
  snapshot := hsnapshot

/-- Slots that settle, while the rings and the current trip stay. -/
theorem of_settles (h : t.InOrder d) (hu : u = { t with
      slots := u.slots, postTimer := u.postTimer, overflow := u.overflow, unrecorded := u.unrecorded })
    (hslots : ∀ i, (t.slots.get i).Settles (u.slots.get i))
    (htimer : u.postTimer = true ↔ ∃ i, (u.slots.get i).state = .filling) : u.InOrder d := by
  refine h.of_numbers (by rw [hu]) (fun i => (hslots i).number) (fun i => (hslots i).taken) (fun i hi => ?filling)
    htimer (fun k => ?ring) fun i k hi => ?snapshot
  case filling =>
    have hti := (hslots i).filling hi
    exact ⟨hti, (h.filling i hti).1, by rw [hu], by rw [hu]⟩
  case ring =>
    obtain ⟨hlength, hconsecutive, hends⟩ := h.ring k
    rw [hu]
    exact ⟨hlength, hconsecutive, hends⟩
  case snapshot => exact (h.snapshot i k ((hslots i).taken hi)).settles (hslots i) fun _ => by rw [hu]

/-- The drive state counts only while a record is FILLING (R138). -/
theorem of_drive (h : t.InOrder d) (hd : ∀ i, (t.slots.get i).state = .filling → d' = .tripped) : t.InOrder d' :=
  { h with
    filling := fun i hi =>
      let ⟨_, hcurrent, hnumber⟩ := h.filling i hi
      ⟨hd i hi, hcurrent, hnumber⟩ }

/-- A slot that is not FILLING settles; the post-trip timer runs for another one or not at all (R145, R146). -/
theorem set_settled (h : t.InOrder d) {i : Fin 8} {y : Slot} (hx : (t.slots.get i).state ≠ .filling)
    (hy : (t.slots.get i).Settles y) : { t with slots := t.slots.set i y }.InOrder d := by
  refine h.of_settles rfl (forall_slot_set .refl hy) (h.timer.trans (exists_congr fun j => ?_))
  show _ ↔ ((t.slots.set i y).get j).state = .filling
  rw [Eight.get_set]
  split
  · rename_i hj
    rw [hj]
    exact iff_of_false hx fun hf => hx (hy.filling hf)
  · exact Iff.rfl

/-- The FILLING record changes in what the laws do not speak of, and stays FILLING (R142). -/
theorem set_filling (h : t.InOrder d) {i : Fin 8} {y : Slot} (hx : (t.slots.get i).state = .filling)
    (hy : (t.slots.get i).Settles y) (hfilling : y.state = .filling) :
    { t with slots := t.slots.set i y }.InOrder d := by
  refine h.of_settles rfl (forall_slot_set .refl hy) (h.timer.trans (iff_of_true ⟨i, hx⟩ ⟨i, ?_⟩))
  show ((t.slots.set i y).get i).state = .filling
  rwa [Eight.get_set_self]

/-- The FILLING record closes, and the post-trip timer stops (R144). -/
theorem close (h : t.InOrder d) {i : Fin 8} (hx : (t.slots.get i).state = .filling) :
    { t.setSlotState i .closed with postTimer := false }.InOrder d := by
  have hsettles : (t.slots.get i).Settles { t.slots.get i with state := .closed } :=
    ⟨rfl, rfl, rfl, fun _ => by rw [hx]; decide, nofun⟩
  refine h.of_settles rfl (forall_slot_set .refl hsettles) (iff_of_false nofun ?_)
  rintro ⟨j, hj⟩
  replace hj : ((t.slots.set i { t.slots.get i with state := .closed }).get j).state = .filling := hj
  rw [Eight.get_set] at hj
  split at hj
  · cases hj
  · rename_i hne
    have hcurrent := (h.filling j hj).2.1
    rw [(h.filling i hx).2.1] at hcurrent
    exact hne (Option.some.inj hcurrent).symm

end Recorder.InOrder

/-! ### Writing a record (R133, R134, R143) -/

/-- A record that follows the newest one joins the ring (R133, R134). -/
theorem Recorder.RingInOrder.push {t : Recorder} {k j : Pinion} {r : Snapshot} (h : t.RingInOrder j)
    (hr : r.seq = t.nextSeq.get k) (counter : Byte) : (t.push k counter r).RingInOrder j := by
  obtain ⟨hlength, hconsecutive, hends⟩ := h
  by_cases hj : j = k
  · subst hj
    have hring : (t.push j counter r).rings.get j = lastN Config.ringSize (t.rings.get j ++ [r]) := Pair.get_set_self ..
    have hnext : (t.push j counter r).nextSeq.get j = r.seq + 1 := by
      rw [hr]
      exact Pair.get_set_self ..
    rw [← hr] at hends
    refine ⟨?_, ?_, ?_⟩ <;> rw [hring]
    · exact lastN_length_le ..
    · exact (hconsecutive.concat hends).lastN _
    · rw [hnext]
      exact EndsAt.lastN (endsAt_concat _ _) _
  · have hring : (t.push k counter r).rings.get j = t.rings.get j := Pair.get_set_ne _ _ hj
    have hnext : (t.push k counter r).nextSeq.get j = t.nextSeq.get j := Pair.get_set_ne _ _ hj
    refine ⟨?_, ?_, ?_⟩ <;> rw [hring]
    · exact hlength
    · exact hconsecutive
    · rwa [hnext]

/-- The slot with a record at the end of its post-trigger part (R143). -/
def Slot.appended (x : Slot) (k : Pinion) (r : Snapshot) : Slot :=
  { x with record := { x.record with post := x.record.post.set k (x.record.post.get k ++ [r]) } }

theorem Slot.appended_snapshots (x : Slot) (k : Pinion) (r : Snapshot) :
    (x.appended k r).record.snapshots k = x.record.snapshots k ++ [r] := by
  simp [Slot.appended, TripRecord.snapshots]

theorem Slot.appended_snapshots_ne (x : Slot) {k j : Pinion} (r : Snapshot) (hj : j ≠ k) :
    (x.appended k r).record.snapshots j = x.record.snapshots j := by
  simp [Slot.appended, TripRecord.snapshots, Pair.get_set_ne, hj]

theorem Slot.appended_grows (x : Slot) (k : Pinion) (r : Snapshot) :
    x.record.GrowsTo (x.appended k r).record := by
  refine ⟨rfl, fun j => ?_⟩
  by_cases hj : j = k
  · rw [hj, appended_snapshots]
    exact List.prefix_append ..
  · rw [appended_snapshots_ne _ _ hj]

/-- A snapshot with room ends at the newest record, so the next one continues it (R134, R143). -/
theorem Slot.SnapshotInOrder.appended {x : Slot} {k j : Pinion} {r : Snapshot} {next : Pair Word16}
    (h : x.SnapshotInOrder j (next.get j)) (hx : x.state = .filling)
    (hroom : (x.record.post.get k).length < Config.postSize) (hr : r.seq = next.get k) :
    (x.appended k r).SnapshotInOrder j ((next.set k (next.get k + 1)).get j) := by
  obtain ⟨hpre, hpost, hconsecutive, hends⟩ := h
  by_cases hj : j = k
  · subst hj
    rw [Pair.get_set_self, ← hr]
    refine ⟨hpre, ?_, ?_, fun _ _ => ?_⟩
    · simp only [Slot.appended, Pair.get_set_self, List.length_append, List.length_singleton]
      exact hroom
    · rw [appended_snapshots]
      exact hconsecutive.concat (hr ▸ hends hx hroom)
    · rw [appended_snapshots]
      exact endsAt_concat _ _
  · have hsame : (x.appended k r).record.post.get j = x.record.post.get j := Pair.get_set_ne _ _ hj
    rw [Pair.get_set_ne _ _ hj]
    refine ⟨hpre, by rwa [hsame], ?_, ?_⟩ <;> rw [appended_snapshots_ne _ _ hj]
    · exact hconsecutive
    · rwa [hsame]

theorem Recorder.appendSlot_some {t : Recorder} {k : Pinion} {i : Fin 8} (h : t.appendSlot k = some i) :
    (t.slots.get i).state = .filling ∧ ((t.slots.get i).record.post.get k).length < Config.postSize := by
  unfold appendSlot at h
  split at h
  · rename_i j hj
    split at h
    · cases h
      exact ⟨(fillingSlot_some hj).2, ‹_›⟩
    · cases h
  · cases h

namespace Recorder.InOrder

variable {t : Recorder} {d : DriveState} {k : Pinion} {r : Snapshot}

/-- A record goes into the ring only where no FILLING record has room for it (R133, R140, R143). -/
theorem push (h : t.InOrder d) (ha : t.appendSlot k = none) (hr : r.seq = t.nextSeq.get k) (counter : Byte) :
    (t.push k counter r).InOrder d := by
  refine h.of_numbers le_rfl (fun _ => rfl) (fun _ => id) (fun i hi => ⟨hi, (h.filling i hi).1, rfl, rfl⟩) h.timer
    (fun j => (h.ring j).push hr counter) fun i j hi => ?_
  obtain ⟨hpre, hpost, hconsecutive, hends⟩ := h.snapshot i j hi
  refine ⟨hpre, hpost, hconsecutive, fun hfilling hroom => ?_⟩
  have hj : j ≠ k := by
    rintro rfl
    rw [appendSlot, fillingSlot_of (h.filling i hfilling).2.1 hfilling] at ha
    have hfull : ¬((t.slots.get i).record.post.get j).length < Config.postSize := by simpa using ha
    exact absurd hroom hfull
  have hnext : (t.push k counter r).nextSeq.get j = t.nextSeq.get j := Pair.get_set_ne _ _ hj
  rw [hnext]
  exact hends hfilling hroom

/-- A record goes into the ring and into the FILLING record that has room for it (R143). -/
theorem append {i : Fin 8} (h : t.InOrder d) (ha : t.appendSlot k = some i) (hr : r.seq = t.nextSeq.get k)
    (counter : Byte) : ((t.push k counter r).append i k r).InOrder d := by
  obtain ⟨hx, hroom⟩ := appendSlot_some ha
  have hslot : ∀ j, ((t.push k counter r).append i k r).slots.get j =
      if j = i then (t.slots.get i).appended k r else t.slots.get j := fun j => Eight.get_set ..
  have hstate : ∀ j, (((t.push k counter r).append i k r).slots.get j).state = (t.slots.get j).state := fun j => by
    rw [hslot]
    split
    · rename_i hj
      rw [hj]
      rfl
    · rfl
  refine h.of_numbers le_rfl (fun j => ?number) (fun j => by rw [hstate]; exact id)
    (fun j hj => ⟨hstate j ▸ hj, (h.filling i hx).1, rfl, rfl⟩)
    (h.timer.trans (exists_congr fun j => by rw [hstate]))
    (fun j => ?ring) fun j p hj => ?snapshot
  case number =>
    rw [hslot]
    split
    · rename_i hj
      rw [hj]
      rfl
    · rfl
  case ring =>
    obtain ⟨hlength, hconsecutive, hends⟩ := (h.ring j).push hr counter
    exact ⟨hlength, hconsecutive, hends⟩
  case snapshot =>
    rw [hslot]
    split
    · rename_i hji
      exact (h.snapshot i p (by rw [hx]; decide)).appended hx hroom hr
    · rename_i hji
      refine (h.snapshot j p (hstate j ▸ hj)).settles (.refl _) fun hf => ?_
      have hcurrent := (h.filling j hf).2.1
      rw [(h.filling i hx).2.1] at hcurrent
      exact absurd (Option.some.inj hcurrent).symm hji

end Recorder.InOrder

/-! ### A trip in the table (R139 to R141) -/

/-- The record that a trip opens: its pre-trigger parts are the ends of the rings (R140). -/
theorem Slot.snapshotInOrder_opened {t : Recorder} {k : Pinion} {x : Slot} (h : t.RingInOrder k)
    (hpre : x.record.pre = t.rings.map (lastN Config.preSize)) (hpost : x.record.post = .both []) :
    x.SnapshotInOrder k (t.nextSeq.get k) := by
  have hsnapshots : x.record.snapshots k = lastN Config.preSize (t.rings.get k) := by
    simp [TripRecord.snapshots, hpre, hpost]
  refine ⟨?_, by simp [hpost], ?_, fun _ _ => ?_⟩
  · rw [hpre, Pair.get_map]
    exact lastN_length_le ..
  · rw [hsnapshots]
    exact h.consecutive.lastN _
  · rw [hsnapshots]
    exact h.ends.lastN _

/-- A trip enters the table outside TRIPPED, where no record is FILLING: its own record becomes the one, or none does
(R139 to R141). -/
theorem Recorded.inOrder {s t : State} {cause : Cause} {value limit : Nat} {later : List Cause} {d : DriveState}
    (h : Recorded s t cause value limit later) (hs : s.trc.InOrder d) (hd : d ≠ .tripped)
    (hrings : t.trc.rings = s.trc.rings) (hnext : t.trc.nextSeq = s.trc.nextSeq) : t.trc.InOrder .tripped := by
  have hring : ∀ k, t.trc.RingInOrder k := fun k => by
    obtain ⟨hlength, hconsecutive, hends⟩ := hs.ring k
    constructor <;> rw [hrings]
    · exact hlength
    · exact hconsecutive
    · rwa [hnext]
  rcases h with ⟨i, -, -, hslots, hcount, hcurrent, htimer, -⟩ | ⟨-, hslots, hcount, -, htimer, -⟩
  case inl =>
    have hopened : (t.trc.slots.get i).state = .filling ∧
        (t.trc.slots.get i).record.number = s.trc.tripCount + 1 := by
      rw [hslots, Eight.get_set_self]
      exact ⟨rfl, rfl⟩
    have hother : ∀ j, j ≠ i → t.trc.slots.get j = s.trc.slots.get j := fun j hj => by
      rw [hslots, Eight.get_set_ne _ _ hj]
    have hbelow : ∀ j, j ≠ i → (t.trc.slots.get j).state ≠ .free →
        (t.trc.slots.get j).record.number ≤ s.trc.tripCount := fun j hj => by
      rw [hother j hj]
      exact hs.number j
    refine ⟨fun j hj => ?filling, iff_of_true htimer ⟨i, hopened.1⟩, fun j hj => ?number,
      fun j l hj hl hjl => ?distinct, hring, fun j k hj => ?snapshot⟩
    case filling =>
      have hji : j = i := by
        by_contra hne
        exact hs.not_filling hd j (hother j hne ▸ hj)
      rw [hji, hcount]
      exact ⟨rfl, hcurrent, hopened.2⟩
    case number =>
      rw [hcount]
      by_cases hji : j = i
      · rw [hji, hopened.2]
      · exact (hbelow j hji hj).trans (Nat.le_succ _)
    case distinct =>
      by_cases hji : j = i <;> by_cases hli : l = i
      · rw [hji, hli]
      · have hlt := hbelow l hli hl
        rw [← hjl, hji, hopened.2] at hlt
        omega
      · have hlt := hbelow j hji hj
        rw [hjl, hli, hopened.2] at hlt
        omega
      · rw [hother j hji] at hj hjl
        rw [hother l hli] at hl hjl
        exact hs.distinct j l hj hl hjl
    case snapshot =>
      by_cases hji : j = i
      · rw [hji, hslots, Eight.get_set_self]
        exact Slot.snapshotInOrder_opened (hring k) rfl rfl
      · rw [hother j hji] at hj ⊢
        rw [hnext]
        exact hs.snapshot j k hj
  case inr =>
    have hle : s.trc.tripCount ≤ countAfter s.trc.tripCount := by
      unfold countAfter
      split <;> omega
    refine hs.of_numbers (by rw [hcount]; exact hle) (fun i => by rw [hslots]) (fun i => by rw [hslots]; exact id)
      (fun i hi => absurd (hslots ▸ hi) (hs.not_filling hd i)) (by rw [htimer, hslots]; exact hs.timer) hring
      fun i k => ?_
    rw [hslots, hnext]
    exact hs.snapshot i k

/-! ### Resets (R136, R148, R149) -/

theorem Recorder.powerOn_inOrder : Recorder.powerOn.InOrder .halt :=
  (recorderInOrder_iff State.reset).mpr ⟨reset_tableLaw, reset_snapshotLaw⟩

/-- After a reset that keeps the table no record is FILLING (R149). -/
theorem Slot.afterReset_settles (x : Slot) : x.Settles x.afterReset ∧ x.afterReset.state ≠ .filling := by
  unfold Slot.afterReset
  split
  · rename_i hx
    exact ⟨⟨rfl, rfl, rfl, fun _ => by rw [hx]; decide, nofun⟩, nofun⟩
  · exact ⟨.refl x, ‹_›⟩

/-- A pin reset or plant reset empties the rings and keeps the records (R136, R149). -/
theorem Recorder.InOrder.afterReset {t : Recorder} {d : DriveState} (h : t.InOrder d) (d' : DriveState) :
    t.afterReset.InOrder d' := by
  have hslot : ∀ i, t.afterReset.slots.get i = (t.slots.get i).afterReset := fun i => Eight.get_map ..
  have hsettles := fun i => (t.slots.get i).afterReset_settles
  have hstopped : ∀ i, (t.afterReset.slots.get i).state ≠ .filling := fun i => by
    rw [hslot]
    exact (hsettles i).2
  refine h.of_numbers le_rfl (fun i => ?number) (fun i => ?taken) (fun i hi => absurd hi (hstopped i))
    (iff_of_false nofun fun ⟨i, hi⟩ => hstopped i hi) (fun k => ?ring) fun i k hi => ?snapshot
  case number =>
    rw [hslot]
    exact (hsettles i).1.number
  case taken =>
    rw [hslot]
    exact (hsettles i).1.taken
  case ring =>
    obtain ⟨hlength, hconsecutive, hends⟩ := powerOn_inOrder.ring k
    exact ⟨hlength, hconsecutive, hends⟩
  case snapshot =>
    rw [hslot] at hi ⊢
    exact (h.snapshot i k ((hsettles i).1.taken hi)).settles (hsettles i).1 fun hf => absurd hf (hsettles i).2

/-! ### Cursors (R150, R152, R154, R155) -/

/-- A cursor that names a place names a record of its slot's present contents. -/
def Cursor.Names (c : Cursor) (slots : Eight Slot) : Prop :=
  match c with
  | .idle => True
  | .fetching p =>
    p.index < ((slots.get p.slot).record.snapshots p.pinion).length ∧ p.trip = (slots.get p.slot).record.number
  | .fetched p r =>
    ((slots.get p.slot).record.snapshots p.pinion)[p.index]? = some r ∧ p.trip = (slots.get p.slot).record.number
  | .gone _ => True

theorem cursorLaw_iff_names (s : State) : CursorLaw s ↔ ∀ j, (s.lanes.get j).cursor.Names s.trc.slots := by
  refine forall_congr' fun j => ?_
  cases (s.lanes.get j).cursor <;> rfl

namespace Cursor.Names

variable {c : Cursor} {slots slots' : Eight Slot}

/-- Records that only grow keep the records that cursors name (R143, R147, R155). -/
theorem of_grows (h : c.Names slots) (hg : ∀ i, (slots.get i).record.GrowsTo (slots'.get i).record) :
    c.Names slots' := by
  cases c with
  | idle => trivial
  | gone p => trivial
  | fetching p =>
    obtain ⟨hindex, htrip⟩ := h
    exact ⟨hindex.trans_le ((hg p.slot).snapshots p.pinion).length_le, htrip.trans (hg p.slot).number.symm⟩
  | fetched p r =>
    obtain ⟨hrecord, htrip⟩ := h
    refine ⟨?_, htrip.trans (hg p.slot).number.symm⟩
    obtain ⟨rest, hrest⟩ := (hg p.slot).snapshots p.pinion
    rw [← hrest, List.getElem?_append_left (List.getElem?_eq_some_iff.mp hrecord).1]
    exact hrecord

/-- A cursor into a reused slot is GONE, and every other one names what it named (R155). -/
theorem lose (h : c.Names slots) (i : Fin 8) (x : Slot) : (c.lose i).Names (slots.set i x) := by
  cases c with
  | idle => trivial
  | gone p => trivial
  | fetching p =>
    unfold Cursor.lose
    dsimp only
    split
    · trivial
    · unfold Names
      dsimp only
      rwa [Eight.get_set_ne _ _ ‹_›]
  | fetched p r =>
    unfold Cursor.lose
    dsimp only
    split
    · trivial
    · unfold Names
      dsimp only
      rwa [Eight.get_set_ne _ _ ‹_›]

/-- READ NEXT steps to a record that the slot holds (R154). -/
theorem step {t : Recorder} {p : CursorPlace} {r : Snapshot} (h : (Cursor.fetched p r).Names t.slots) :
    (Cursor.fetching (t.stepPlace p)).Names t.slots := by
  obtain ⟨hrecord, htrip⟩ := h
  have hindex := (List.getElem?_eq_some_iff.mp hrecord).1
  refine ⟨?_, htrip⟩
  show stepIndex p.direction p.index (t.count p.slot p.pinion) < t.count p.slot p.pinion
  replace hindex : p.index < t.count p.slot p.pinion := hindex
  unfold stepIndex
  split <;> split <;> omega

end Cursor.Names

end Sys2Proof.Machine
end

section
/-! PROOFS. The trip table, the snapshots and the cursors: what the operations over lanes, records and trips keep. -/

namespace Sys2Proof.Machine

/-! ### Frames: the cursors of the lanes

The selections of the lanes have these frames above; here they are for the cursors. -/

section
variable (s : State) (j : Lane)

@[simp] theorem LaneState.raise_cursor (l : LaneState) (k : Notice) : (l.raise k).cursor = l.cursor := rfl

theorem State.updLane_cursor (lane : Lane) {f : LaneState → LaneState} (hf : ∀ l, (f l).cursor = l.cursor) :
    ((s.updLane lane f).lanes.get j).cursor = (s.lanes.get j).cursor := by
  rw [State.updLane_get]
  split
  · exact hf _
  · rfl

theorem State.updLanesWhere_cursor (p : LaneState → Bool) {f : LaneState → LaneState}
    (hf : ∀ l, (f l).cursor = l.cursor) :
    ((s.updLanesWhere p f).lanes.get j).cursor = (s.lanes.get j).cursor := by
  rw [State.updLanesWhere_get]
  split
  · exact hf _
  · rfl

@[simp] theorem State.raiseWatchers_cursor (k : Notice) :
    ((s.raiseWatchers k).lanes.get j).cursor = (s.lanes.get j).cursor := s.updLanesWhere_cursor j _ fun _ => rfl
@[simp] theorem State.raisePinion_cursor (p : Pinion) (k : Notice) :
    ((s.raisePinion p k).lanes.get j).cursor = (s.lanes.get j).cursor := s.updLanesWhere_cursor j _ fun _ => rfl
@[simp] theorem State.answer_cursor (lane : Lane) (kind : RequestKind) (status : Status) (payload : List Byte) :
    ((s.answer lane kind status payload).lanes.get j).cursor = (s.lanes.get j).cursor :=
  s.updLane_cursor j lane fun _ => rfl
@[simp] theorem State.answerPinion_cursor (k : Pinion) (payload : List Byte) :
    ((s.answerPinion k payload).lanes.get j).cursor = (s.lanes.get j).cursor := s.updLanesWhere_cursor j _ fun _ => rfl
@[simp] theorem State.captureRefusal_cursor (lane : Lane) (kind : RequestKind) :
    ((s.captureRefusal lane kind).lanes.get j).cursor = (s.lanes.get j).cursor := by rw [State.captureRefusal_get]
@[simp] theorem State.startSelection_cursor (lane : Lane) :
    ((s.startSelection lane).lanes.get j).cursor = (s.lanes.get j).cursor := s.updLane_cursor j lane fun _ => rfl
@[simp] theorem State.openSelection_cursor (lane : Lane) :
    ((s.openSelection lane).lanes.get j).cursor = (s.lanes.get j).cursor := by
  unfold State.openSelection
  split
  · exact s.startSelection_cursor j lane
  · rfl
@[simp] theorem State.closeSelection_cursor (lane : Lane) (bytes : List Byte) :
    ((s.closeSelection lane bytes).lanes.get j).cursor = (s.lanes.get j).cursor := s.updLane_cursor j lane fun _ => rfl
@[simp] theorem State.retarget_cursor : (s.retarget.lanes.get j).cursor = (s.lanes.get j).cursor := by
  rw [State.retarget_lanes]
@[simp] theorem State.rampPinion_cursor (k : Pinion) :
    ((s.rampPinion k).lanes.get j).cursor = (s.lanes.get j).cursor := by
  unfold State.rampPinion
  dsimp only
  split
  · split <;> split <;> simp
  · rfl
@[simp] theorem State.moveTo_cursor (d : DriveState) : ((s.moveTo d).lanes.get j).cursor = (s.lanes.get j).cursor := by
  simp [State.moveTo]
@[simp] theorem State.enterRest_cursor (d : DriveState) :
    ((s.enterRest d).lanes.get j).cursor = (s.lanes.get j).cursor := by
  simp [State.enterRest]

end

/-! ### The laws of records together -/

/-- The laws of the trip table and the snapshots, and that of the cursors. -/
structure RecordLaws (s : State) : Prop where
  recorder : s.trc.InOrder s.rc.drive
  cursors : ∀ j, (s.lanes.get j).cursor.Names s.trc.slots

theorem recordLaws_iff (s : State) : RecordLaws s ↔ TableLaw s ∧ SnapshotLaw s ∧ CursorLaw s := by
  rw [cursorLaw_iff_names, ← and_assoc, ← recorderInOrder_iff]
  exact ⟨fun h => ⟨h.recorder, h.cursors⟩, fun ⟨hrecorder, hcursors⟩ => ⟨hrecorder, hcursors⟩⟩

/-- From `s` to `t` nothing changes that the laws speak of, and TRIPPED is not left. -/
@[simp] def RecordFrame (s t : State) : Prop :=
  t.trc = s.trc ∧ (∀ j, (t.lanes.get j).cursor = (s.lanes.get j).cursor) ∧
    (s.rc.drive = .tripped → t.rc.drive = .tripped)

/-- A later cause changes neither the number nor the snapshots of its record (R142). -/
theorem Slot.offer_settles (x : Slot) (cause : Cause) : x.Settles { x with record := x.record.offer cause } := by
  have hkept : (x.record.offer cause).number = x.record.number ∧ (x.record.offer cause).pre = x.record.pre ∧
      (x.record.offer cause).post = x.record.post := by
    unfold TripRecord.offer
    split_ifs <;> exact ⟨rfl, rfl, rfl⟩
  obtain ⟨hnumber, hpre, hpost⟩ := hkept
  exact ⟨hnumber, hpre, hpost, id, id⟩

namespace RecordLaws

variable {s t : State}

theorem frame (h : RecordLaws s) (hf : RecordFrame s t := by simp) : RecordLaws t := by
  obtain ⟨htrc, hcursor, hd⟩ := hf
  refine ⟨?_, fun j => ?_⟩ <;> rw [htrc]
  · exact h.recorder.of_drive fun i hi => hd (h.recorder.filling i hi).1
  · rw [hcursor]
    exact h.cursors j

/-- The recorder changes in order, and its records only grow. -/
theorem of_grows (h : RecordLaws s) (ht : t.trc.InOrder t.rc.drive)
    (hcursor : ∀ j, (t.lanes.get j).cursor = (s.lanes.get j).cursor)
    (hg : ∀ i, (s.trc.slots.get i).record.GrowsTo (t.trc.slots.get i).record) : RecordLaws t :=
  ⟨ht, fun j => by rw [hcursor]; exact (h.cursors j).of_grows hg⟩

/-- One slot changes, and settles. -/
theorem of_slot (h : RecordLaws s) (ht : t.trc.InOrder t.rc.drive)
    (hcursor : ∀ j, (t.lanes.get j).cursor = (s.lanes.get j).cursor) {i : Fin 8} {y : Slot}
    (hslots : t.trc.slots = s.trc.slots.set i y) (hy : (s.trc.slots.get i).Settles y) : RecordLaws t :=
  h.of_grows ht hcursor fun j => by
    rw [hslots]
    exact (forall_slot_set .refl hy j).grows

theorem answer (h : RecordLaws s) (lane : Lane) (kind : RequestKind) (status : Status) (reply : List Byte) :
    RecordLaws (s.answer lane kind status reply) := h.frame

theorem raiseAll (h : RecordLaws s) (k : Notice) : RecordLaws (s.raiseAll k) := h.frame

/-- Any part of one lane but its cursor. -/
theorem updLane (h : RecordLaws s) (lane : Lane) {f : LaneState → LaneState}
    (hf : ∀ l, (f l).cursor = l.cursor := by intro; rfl) : RecordLaws (s.updLane lane f) :=
  h.frame ⟨rfl, fun j => s.updLane_cursor j lane hf, id⟩

/-- Run control but for the drive state. -/
theorem updRc (h : RecordLaws s) {f : RunControl → RunControl} (hf : ∀ r, (f r).drive = r.drive := by intro; rfl) :
    RecordLaws (s.updRc f) := h.frame (by simp [hf])

/-! ### Writing and closing records (R133 to R135, R140, R143, R144) -/

theorem writeEntryRecord (h : RecordLaws s) {k : Pinion} (ha : s.trc.appendSlot k = none) (counter : Byte)
    (draft : Snapshot) : RecordLaws (s.writeEntryRecord k counter draft) :=
  ⟨h.recorder.push ha rfl counter, h.cursors⟩

theorem closeRecord (h : RecordLaws s) {i : Fin 8} (hi : (s.trc.slots.get i).state = .filling) :
    RecordLaws (s.closeRecord i) := by
  refine h.of_slot (h.recorder.close hi) (fun j => ?_) rfl ⟨rfl, rfl, rfl, fun _ => by rw [hi]; decide, nofun⟩
  rw [State.closeRecord, State.raiseAll_get, LaneState.raise_cursor]
  rfl

/-- A record in its ring and in the FILLING record that has room for it. -/
theorem appended (h : RecordLaws s) {k : Pinion} {i : Fin 8} {r : Snapshot} (ha : s.trc.appendSlot k = some i)
    (hr : r.seq = s.trc.nextSeq.get k) (counter : Byte) : RecordLaws (s.appended k counter r i) :=
  h.of_grows (h.recorder.append ha hr counter) (fun _ => rfl) <|
    forall_slot_set (p := fun x y => x.record.GrowsTo y.record) (fun x => .refl x.record)
      ((s.trc.slots.get i).appended_grows k r)

theorem writeRecord (h : RecordLaws s) (k : Pinion) (counter : Byte) (draft : Snapshot) :
    RecordLaws (s.writeRecord k counter draft) := by
  cases ha : s.trc.appendSlot k with
  | none =>
    have heq : s.writeRecord k counter draft = s.writeEntryRecord k counter draft := by
      rw [State.writeRecord, ha]
    rw [heq]
    exact h.writeEntryRecord ha ..
  | some i =>
    have happended := h.appended ha (r := s.trc.complete k counter draft true) rfl counter
    rw [s.writeRecord_of_append k counter draft i ha]
    split
    · refine happended.closeRecord ?_
      rw [s.appended_slots _ _ _ _ (Recorder.appendSlot_some ha).1, Eight.get_set_self]
    · exact happended

/-! ### Reports and trip entry (R14 to R17, R139 to R142, R155) -/

theorem offerLater (h : RecordLaws s) (cause : Cause) : RecordLaws (s.offerLater cause) := by
  unfold State.offerLater
  split
  · rename_i i hfilling
    obtain ⟨-, hi⟩ := Recorder.fillingSlot_some hfilling
    have hsettles := (s.trc.slots.get i).offer_settles cause
    exact h.of_slot (h.recorder.set_filling hi hsettles hi) (fun _ => rfl) rfl hsettles
  · exact h

/-- The records that a trip entry itself writes find no FILLING record (R75, R77, R140). -/
theorem entryRecords (h : RecordLaws s) (hd : s.rc.drive ≠ .tripped) (lost : List Entry) (trigger : Option Entry) :
    RecordLaws ((lost.foldl State.abandonAtTrip s).writeTrigger trigger) ∧
      ((lost.foldl State.abandonAtTrip s).writeTrigger trigger).rc.drive ≠ .tripped := by
  have hwrite : ∀ (u : State) (k : Pinion) (counter : Byte) (draft : Snapshot),
      RecordLaws u ∧ u.rc.drive ≠ .tripped → RecordLaws (u.writeEntryRecord k counter draft) ∧
        (u.writeEntryRecord k counter draft).rc.drive ≠ .tripped := fun u k counter draft ⟨hu, hn⟩ =>
    ⟨hu.writeEntryRecord (hu.recorder.appendSlot_eq_none hn k) .., hn⟩
  have hlost := lost.foldlRecOn (motive := fun u => RecordLaws u ∧ u.rc.drive ≠ .tripped) State.abandonAtTrip ⟨h, hd⟩
    fun u hu e _ => hwrite u e.pinion e.counter _ hu
  cases trigger with
  | none => exact hlost
  | some e => exact hwrite _ e.pinion e.counter _ hlost

/-- The trip takes its slot or goes to the overflow summary, cursors into a reused slot are lost, and the drive is in
TRIPPED (R9, R139, R155). -/
theorem recordTrip (h : RecordLaws s) (hd : s.rc.drive ≠ .tripped) (cause : Cause) (value limit : Nat) :
    RecordLaws ((s.recordTrip cause value limit).enterRest .tripped) := by
  obtain ⟨hrecorded, hrings, hnext, -, hlanes⟩ := s.recordTrip_spec cause value limit
  refine ⟨?_, fun j => ?_⟩ <;> rw [State.enterRest_trc]
  · rw [State.enterRest_rc]
    exact hrecorded.inOrder h.recorder hd hrings hnext
  · rw [State.enterRest_cursor, hlanes j]
    rcases hrecorded with ⟨i, -, -, hslots, -, hcurrent, -⟩ | ⟨-, hslots, -, hcurrent, -⟩ <;> rw [hslots, hcurrent]
    · exact (h.cursors j).lose i _
    · exact h.cursors j

theorem replyAbandoned (h : RecordLaws s) (trip : Bool) (e : Entry) : RecordLaws (s.replyAbandoned trip e) :=
  h.frame (by simp [State.replyAbandoned])

theorem enterTrip (h : RecordLaws s) (hd : s.rc.drive ≠ .tripped) (cause : Cause) (value limit : Nat)
    (trigger : Option Entry) : RecordLaws (s.enterTrip cause value limit trigger) := by
  obtain ⟨hwritten, hn⟩ := h.entryRecords hd s.rau.entries trigger
  have hentered := (hwritten.recordTrip hn cause value limit).updRc (f := fun r => { r with ack := .both false })
  have hreplied := s.rau.entries.foldlRecOn (State.replyAbandoned true) hentered fun _ hu e _ =>
    hu.replyAbandoned true e
  exact (hreplied.raiseAll .trip).raiseAll .state

theorem reportTrip (h : RecordLaws s) (cause : Cause) (value limit : Nat) (trigger : Option Entry) :
    RecordLaws (s.reportTrip cause value limit trigger) := by
  unfold State.reportTrip
  split
  · exact h.offerLater cause
  · rename_i hd
    exact h.enterTrip hd ..

/-- The end of a controlled stop enters READY from STOPPING (R7, R75). -/
theorem endStop (h : RecordLaws s) (hd : s.rc.drive ≠ .tripped) : RecordLaws s.endStop := by
  have hrest : RecordLaws (s.enterRest .ready) := h.frame (by simp [hd])
  have hrecords := s.rau.entries.foldlRecOn State.abandonAtStop hrest fun _ hu _ _ => hu.writeRecord ..
  have hreplied := s.rau.entries.foldlRecOn (State.replyAbandoned false) hrecords fun _ hu e _ =>
    hu.replyAbandoned false e
  exact hreplied.raiseAll .state

/-- A move of the drive state that does not leave TRIPPED (R1). -/
theorem moveTo (h : RecordLaws s) (d : DriveState) (hd : s.rc.drive ≠ .tripped) : RecordLaws (s.moveTo d) :=
  h.frame (by simp [hd])

end RecordLaws

end Sys2Proof.Machine
end

section
/-! PROOFS. The trip table, the snapshots and the cursors: every command keeps their laws. -/

namespace Sys2Proof.Machine

/-- TRIPPED is left with no record FILLING (R20). -/
theorem State.not_filling_of_clearRefusal_none {s : State} (h : s.clearRefusal = none) : s.trc.fillingSlot = none := by
  by_contra hne
  have hfilling : s.trc.fillingSlot.isSome = true := Option.isSome_iff_ne_none.mpr hne
  unfold State.clearRefusal at h
  split_ifs at h

/-- Every lane's cursor is IDLE after a reset (R157, R164). -/
theorem LaneState.afterReset_cursor (l : LaneState) (role : Role) (conflict : Bool) :
    (l.afterReset role conflict).cursor = .idle := rfl

namespace RecordLaws

variable {s : State}

/-! ### Selections and requests (R160 to R163, R165, R167, R168) -/

theorem closed (h : RecordLaws s) (lane : Lane) (bytes : List Byte) :
    RecordLaws ((s.openSelection lane).closeSelection lane bytes) := h.frame

/-- A request keeps the laws where its block keeps them: every other way it can go touches lanes and the capture. -/
theorem request (h : RecordLaws s) (lane : Lane) (kind : RequestKind) (payload : List Byte) {body : State → State}
    (hbody : ∀ u, RecordLaws u → RecordLaws (body u)) : RecordLaws (s.request lane kind payload body) := by
  have hclosed := h.closed lane (requestFrame kind payload)
  unfold State.request State.judge
  dsimp only
  split
  · split
    · exact hclosed.answer ..
    · split
      · exact hclosed.frame
      · exact hbody _ hclosed
  · exact hclosed

/-- A block that only answers. -/
theorem request_answer (h : RecordLaws s) (lane : Lane) (kind : RequestKind) (payload : List Byte) (status : Status)
    (reply : State → List Byte) :
    RecordLaws (s.request lane kind payload fun u => u.answer lane kind status (reply u)) :=
  h.request lane kind payload fun _ hu => hu.answer ..

theorem endBadFrame (h : RecordLaws s) (lane : Lane) (bytes : List Byte) : RecordLaws (s.endBadFrame lane bytes) := by
  have hclosed := h.closed lane bytes
  unfold State.endBadFrame
  split
  · exact h
  · dsimp only
    split
    · exact hclosed.updLane lane
    · exact hclosed

theorem endPending (h : RecordLaws s) (lane : Lane) (bytes : List Byte) : RecordLaws (s.endPending lane bytes) := by
  have hclosed := h.closed lane bytes
  unfold State.endPending
  dsimp only
  split
  · exact hclosed
  · exact hclosed
  · exact h
  · exact h

theorem ackNotice (h : RecordLaws s) (lane : Lane) (kind : Byte) : RecordLaws (s.ackNotice lane kind) := by
  unfold State.ackNotice
  dsimp only
  split
  · exact (h.updLane lane).answer ..
  · exact h.answer ..

/-! ### The trip table and the cursors (R145, R146, R151 to R154) -/

theorem markRead (h : RecordLaws s) (lane : Lane) (i : Fin 8) : RecordLaws (s.markRead lane i) := by
  unfold State.markRead
  split
  · rename_i hmark
    obtain ⟨-, hclosed⟩ := hmark
    have hsettles : (s.trc.slots.get i).Settles { s.trc.slots.get i with state := .read } :=
      ⟨rfl, rfl, rfl, fun _ => by rw [hclosed]; decide, nofun⟩
    exact h.of_slot (h.recorder.set_settled (by rw [hclosed]; decide) hsettles) (fun _ => rfl) rfl hsettles
  · exact h

theorem readSummary (h : RecordLaws s) (lane : Lane) (slot : Byte) (page : Option Byte) :
    RecordLaws (s.readSummary lane slot page) := by
  unfold State.readSummary
  split
  · split
    · exact h.answer ..
    · exact (h.markRead lane _).answer ..
  · split <;> exact h.answer ..

/-- A record that is not FILLING leaves the table with its contents in place (R147, R155). -/
theorem freed (h : RecordLaws s) {i : Fin 8} (hi : (s.trc.slots.get i).state ≠ .filling) :
    RecordLaws (s.updTrc fun t => t.setSlotState i .free) :=
  have hsettles : (s.trc.slots.get i).Settles { s.trc.slots.get i with state := .free } :=
    ⟨rfl, rfl, rfl, fun hfree => absurd rfl hfree, nofun⟩
  h.of_slot (h.recorder.set_settled hi hsettles) (fun _ => rfl) rfl hsettles

theorem clearOverflow (h : RecordLaws s) : RecordLaws (s.updTrc Recorder.clearOverflow) :=
  ⟨h.recorder.of_settles rfl (fun _ => .refl _) h.recorder.timer, h.cursors⟩

theorem release (h : RecordLaws s) (lane : Lane) (slot : Byte) : RecordLaws (s.release lane slot) := by
  unfold State.release
  split
  · split
    case h_1 hi | h_2 hi => exact (h.freed (by rw [hi]; decide)).answer ..
    case h_3 | h_4 => exact h.answer ..
  · split
    · exact h.clearOverflow.answer ..
    · exact h.answer ..

theorem putCursor (h : RecordLaws s) (lane : Lane) {c : Cursor} (hc : c.Names s.trc.slots) :
    RecordLaws (s.putCursor lane c) := by
  refine ⟨h.recorder, fun j => ?_⟩
  rw [State.putCursor, State.updLane_get]
  split
  · exact hc
  · exact h.cursors j

/-- The place that SET CURSOR takes lies in the slot's snapshot, which is not empty (R151). -/
theorem setCursor (h : RecordLaws s) (lane : Lane) (slot pinion index direction : Byte) :
    RecordLaws (s.setCursor lane slot pinion index direction) := by
  unfold State.setCursor
  split
  · exact h.answer ..
  · rename_i i _
    dsimp only
    split
    · exact h.answer ..
    · rename_i hheld
      obtain ⟨-, hcount⟩ := not_or.mp hheld
      refine (h.putCursor lane (c := .fetching _) ⟨?_, rfl⟩).answer ..
      show min index.toNat (s.trc.count i (pinionOf pinion) - 1) < s.trc.count i (pinionOf pinion)
      omega

theorem readNext (h : RecordLaws s) (lane : Lane) : RecordLaws (s.readNext lane) := by
  unfold State.readNext
  split
  case h_1 | h_2 => exact h.answer ..
  case h_3 p r hc => exact (h.putCursor lane (Cursor.Names.step (hc ▸ h.cursors lane))).answer ..
  case h_4 => exact (h.putCursor lane (c := .idle) trivial).answer ..

theorem fetchCompletes (h : RecordLaws s) (lane : Lane) : RecordLaws (s.fetchCompletes lane) := by
  unfold State.fetchCompletes
  split
  case h_1 p hc =>
    split
    · rename_i r hrecord
      have hnames : (Cursor.fetching p).Names s.trc.slots := hc ▸ h.cursors lane
      exact (h.putCursor lane (c := .fetched p r) ⟨hrecord, hnames.2⟩).updLane lane
    · exact h
  all_goals exact h

/-! ### The requests of run control (R3 to R6, R19, R20) -/

theorem ackTrip (h : RecordLaws s) (lane : Lane) : RecordLaws (s.ackTrip lane) := by
  unfold State.ackTrip
  split
  · split
    · exact (h.updRc (f := fun r => r.acknowledged _)).answer ..
    · exact h
  · exact h.answer ..

theorem arm (h : RecordLaws s) (lane : Lane) : RecordLaws (s.arm lane) := by
  unfold State.arm
  split
  · exact h.answer ..
  · rename_i hd
    split
    · exact h.answer ..
    · split
      · exact h.answer ..
      · exact (h.moveTo .ready (by rw [not_not.mp hd]; decide)).answer ..

theorem disarm (h : RecordLaws s) (lane : Lane) : RecordLaws (s.disarm lane) := by
  unfold State.disarm
  split
  · exact h.answer ..
  · rename_i hd
    exact h.frame (by simp [not_not.mp hd])

theorem start (h : RecordLaws s) (lane : Lane) : RecordLaws (s.start lane) := by
  have hclear : RecordLaws (s.updDwu DriveWatch.clearImbalance) := h.frame
  unfold State.start
  split
  · exact h.answer ..
  · rename_i hready
    exact (hclear.moveTo .run (by rw [State.updDwu_rc, State.ready_of_startRefusal_none hready]; decide)).answer ..

theorem inching (h : RecordLaws s) (lane : Lane) : RecordLaws (s.inching lane) := by
  unfold State.inching
  split
  · exact h.answer ..
  · rename_i hready
    exact (h.moveTo .inch (by rw [State.ready_of_startRefusal_none hready]; decide)).answer ..

theorem stop (h : RecordLaws s) (lane : Lane) : RecordLaws (s.stop lane) := by
  have htimer : RecordLaws s.startStopTimer := h.updRc
  have hclear : RecordLaws (s.startStopTimer.updDwu DriveWatch.clearImbalance) := htimer.frame
  unfold State.stop
  split
  case h_1 hd => exact (htimer.moveTo .stopping (by show s.rc.drive ≠ _; rw [hd]; decide)).answer ..
  case h_2 hd => exact (hclear.moveTo .stopping (by show s.rc.drive ≠ _; rw [hd]; decide)).answer ..
  all_goals exact h.answer ..

/-- CLEAR TRIP leaves TRIPPED only where no record is FILLING (R20, R138). -/
theorem clearTrip (h : RecordLaws s) (lane : Lane) : RecordLaws (s.clearTrip lane) := by
  unfold State.clearTrip
  split
  · exact h.answer ..
  · rename_i hclear
    have hnone := State.not_filling_of_clearRefusal_none hclear
    have hrest : RecordLaws ((s.updRc RunControl.clearAcks).enterRest .halt) := by
      refine ⟨?_, fun j => ?_⟩ <;> rw [State.enterRest_trc]
      · refine h.recorder.of_drive fun i hi => ?_
        rw [Recorder.fillingSlot_of (h.recorder.filling i hi).2.1 hi] at hnone
        cases hnone
      · rw [State.enterRest_cursor]
        exact h.cursors j
    exact (hrest.raiseAll .state).answer ..

/-! ### Samples and computations (R10, R64, R70, R73, R77, R80) -/

theorem takeDemand (h : RecordLaws s) (k : Pinion) (demand : Option Word16) : RecordLaws (s.takeDemand k demand) := by
  unfold State.takeDemand
  split
  · split
    · exact h.frame
    · exact h
  · exact h

theorem zeroSpeedTest (h : RecordLaws s) : RecordLaws s.zeroSpeedTest := by
  unfold State.zeroSpeedTest
  split
  · rename_i hzero
    exact h.endStop (by rw [hzero.1]; decide)
  · exact h

theorem regulate (h : RecordLaws s) (lane : Lane) (e : Entry) (tripped : Bool) :
    RecordLaws (s.regulate lane e tripped) := by
  unfold State.regulate
  split
  · exact h.frame
  · cases tripped with
    | true => exact h.answer ..
    | false => exact (h.writeRecord e.pinion e.counter (s.draft e)).answer ..

/-- An arriving SAMPLE: its checks only report, whatever they find. -/
theorem takeSample (h : RecordLaws s) (lane : Lane) (iMeas n : Word16) (counter bridge : Byte)
    (demand : Option Word16) : RecordLaws (s.takeSample lane iMeas n counter bridge demand) := by
  unfold State.takeSample
  split
  · rename_i k _
    obtain ⟨u, reports, hu, -, -, -, hcheck⟩ := s.checkSample_arrive ⟨k, iMeas, n, counter, false, false, s.rc.drive⟩ n
      bridge
    have hheard : RecordLaws u := h.frame (by rw [hu]; simp [heardBy])
    rw [State.sampleArrives_eq s lane k iMeas n counter bridge demand _ hcheck]
    have hreported : RecordLaws (u.reportAll ⟨k, iMeas, n, counter, false, false, s.rc.drive⟩ reports) :=
      reports.foldlRecOn _ hheard fun _ hv _ _ => hv.reportTrip ..
    exact (hreported.zeroSpeedTest.takeDemand ..).regulate ..
  · exact h

theorem startWaiting (h : RecordLaws s) : RecordLaws s.startWaiting := h.frame

theorem computationCompletes (h : RecordLaws s) : RecordLaws s.computationCompletes := by
  unfold State.computationCompletes
  split
  · rename_i c _
    have hreplied : ∀ r, RecordLaws (((s.updCrg fun r => { r with
        acc := r.acc.set c.entry.pinion c.newAcc, sat := r.sat.set c.entry.pinion c.newSat }).updRau fun r =>
        { r with inFlight := none }).answerPinion c.entry.pinion r) := fun _ => h.frame
    exact ((hreplied _).writeRecord c.entry.pinion c.entry.counter _).startWaiting
  · exact h

/-! ### The plant's settings (R53, R59, R85, R117, R130) -/

theorem setLimits (h : RecordLaws s) (lane : Lane) (plant ceilA ceilB derate inchCeiling rampStep : Word16) :
    RecordLaws (s.setLimits lane plant ceilA ceilB derate inchCeiling rampStep) := by
  unfold State.setLimits
  split
  · exact h.answer ..
  · exact h.frame

theorem setGains (h : RecordLaws s) (lane : Lane) (kp ki : Word16) (feedforward : Byte) (uMin uMax : Word16) :
    RecordLaws (s.setGains lane kp ki feedforward uMin uMax) := by
  unfold State.setGains
  split <;> exact h.frame

theorem compareOverload (h : RecordLaws s) (k : Pinion) : RecordLaws (s.compareOverload k) := by
  have hsum : RecordLaws (s.updDwu fun w => { w with ol := w.ol.set k w.watch.q }) := h.frame
  unfold State.compareOverload
  split
  · exact hsum.reportTrip ..
  · exact h

theorem setWatch (h : RecordLaws s) (lane : Lane) (w : WatchSettings) : RecordLaws (s.setWatch lane w) := by
  have hsettings : RecordLaws (s.updDwu fun d => { d with watch := w }) := h.frame
  exact ((hsettings.compareOverload .a).compareOverload .b).answer ..

theorem noteMove (h : RecordLaws s) (c : Channel) (before : ChannelState) : RecordLaws (s.noteMove c before) := by
  unfold State.noteMove
  split
  · exact h
  · exact h.frame (by simp [State.channelMoved])

theorem updVlu (h : RecordLaws s) (f : Vibration → Vibration) : RecordLaws (s.updVlu f) := h.frame

theorem updScc (h : RecordLaws s) (f : SensorChain → SensorChain) : RecordLaws (s.updScc f) := h.frame

theorem setChannel (h : RecordLaws s) (lane : Lane) (i : Channel) (g : ChannelConfig) :
    RecordLaws (s.setChannel lane i g) := by
  unfold State.setChannel
  split
  · exact ((h.updVlu fun v => v.updChannel i fun c => c.configure g).noteMove i (s.vlu.channels.get i).state).frame
  · exact h.answer ..

theorem discover (h : RecordLaws s) (lane : Lane) (count : Byte) : RecordLaws (s.discover lane count) := by
  unfold State.discover State.forgetChannels
  dsimp only
  split
  · exact h.answer ..
  · split
    · exact h.answer ..
    · split
      · exact h.frame (by simp [State.channelMoved])
      · exact h.frame

/-! ### Channels and the chain (R102 to R104, R110, R111, R124 to R129) -/

theorem levelComputationCompletes (h : RecordLaws s) (c : Channel) : RecordLaws (s.levelComputationCompletes c) := by
  unfold State.levelComputationCompletes State.levelCompletes
  split
  · dsimp only
    split
    · exact ((h.updVlu _).reportTrip ..).noteMove ..
    · exact (h.updVlu _).noteMove ..
  · exact h

theorem nodeLost (h : RecordLaws s) (c : Channel) : RecordLaws (s.nodeLost c) := by
  unfold State.nodeLost
  dsimp only
  split
  · exact ((h.updVlu _).reportTrip ..).noteMove ..
  · exact (h.updVlu _).noteMove ..

theorem closePolled (h : RecordLaws s) (c : Fin 8) (words : List ChainWord) : RecordLaws (s.closePolled c words) := by
  unfold State.closePolled State.handOver
  dsimp only
  split
  · split
    · exact (h.updScc _).nodeLost c
    · split
      · exact (h.updScc _).updVlu _
      · exact h.updScc _
  · exact h

theorem endDiscovery (h : RecordLaws s) (found count : Nat) : RecordLaws (s.endDiscovery found count) :=
  h.frame (by simp [State.endDiscovery])

theorem closeSearch (h : RecordLaws s) (c : Fin 8) (words : List ChainWord) : RecordLaws (s.closeSearch c words) := by
  have hlock : ∀ d w, RecordLaws (s.lockPosition d c w) := fun d w => by
    unfold State.lockPosition
    dsimp only
    split
    · exact (h.updScc _).updScc _
    · exact (h.updScc _).endDiscovery ..
  have hmiss : ∀ d rounds, RecordLaws (s.missSearch d c rounds) := fun d rounds => by
    unfold State.missSearch
    split
    · exact (h.updScc _).endDiscovery ..
    · exact h
  unfold State.closeSearch
  split
  · exact h
  · split
    · exact h
    · split
      · split
        · exact hlock ..
        · exact hmiss ..
      · exact h

theorem closeWindow (h : RecordLaws s) (c : Fin 8) (words : List ChainWord) : RecordLaws (s.closeWindow c words) := by
  have hshut : ∀ r, RecordLaws (s.windowShut r c) := fun _ => h.updScc _
  rcases s.closeWindow_cases c words with heq | ⟨r, -, ⟨-, heq⟩ | ⟨-, -, heq⟩⟩ <;> rw [heq]
  · exact h
  · exact (hshut r).closePolled c words
  · exact (hshut r).closeSearch c words

theorem roundTimer (h : RecordLaws s) : RecordLaws s.roundTimer := by
  rw [State.roundTimer_eq]
  split
  · exact h
  · exact h.frame (by simp [State.startRound])

/-! ### Timers (R8, R12, R45, R84, R144, R172) -/

theorem advanceTime (h : RecordLaws s) : RecordLaws s.advanceTime := by
  unfold State.advanceTime
  split
  · exact h.frame
  · exact h

theorem rampTick (h : RecordLaws s) : RecordLaws s.rampTick := by
  unfold State.rampTick
  split
  · exact h.frame
  · exact h

theorem silenceExpires (h : RecordLaws s) (k : Pinion) : RecordLaws (s.silenceExpires k) := by
  have hsilent : RecordLaws (s.updRc fun r => r.silence k) := h.updRc
  unfold State.silenceExpires
  split
  · exact h
  · dsimp only
    split
    case h_1 => exact hsilent.updRc
    case h_2 | h_3 | h_4 => exact hsilent.reportTrip ..
    case h_5 | h_6 => exact hsilent

theorem stopExpires (h : RecordLaws s) : RecordLaws s.stopExpires := by
  have hstopped : RecordLaws (s.updRc fun r => { r with stopTimer := none }) := h.updRc
  unfold State.stopExpires
  split
  · exact h
  · dsimp only
    split
    · exact hstopped.reportTrip ..
    · exact hstopped

/-- The post-trip timer runs only while a record is FILLING, which its expiry closes. -/
theorem postTripExpires (h : RecordLaws s) : RecordLaws s.postTripExpires := by
  by_cases htimer : s.trc.postTimer = true
  · obtain ⟨i, hi⟩ := h.recorder.timer.mp htimer
    rw [State.postTripExpires_filling htimer (Recorder.fillingSlot_of (h.recorder.filling i hi).2.1 hi)]
    exact h.closeRecord hi
  · rw [State.postTripExpires_stopped (Bool.eq_false_iff.mpr htimer)]
    exact h

/-! ### Resets (R136, R148, R149, R157, R164, R174 to R176) -/

/-- Every reset leaves the cursors IDLE, and the drive in HALT (R22, R164). -/
theorem blocksReset (s : State) {lanes : Four LaneState} (hlanes : ∀ j, (lanes.get j).cursor = .idle)
    (configs : Eight ChannelConfig) {trc : Recorder} (htrc : trc.InOrder .halt) (causes : ResetCauses) (phase : Phase) :
    RecordLaws (s.blocksReset lanes configs trc causes phase) :=
  ⟨htrc, fun j => by
    show ((lanes.get j).cursor).Names trc.slots
    rw [hlanes]
    trivial⟩

end RecordLaws

theorem settledLanes_cursor (lanes : Four LaneState) (straps : Straps) (j : Lane) :
    ((settledLanes lanes straps).get j).cursor = .idle := by
  rw [settledLanes, Four.get_map, LaneState.afterReset_cursor]

theorem heldLanes_cursor (lanes : Four LaneState) (j : Lane) : ((heldLanes lanes).get j).cursor = .idle := by
  rw [heldLanes, Four.get_map, LaneState.afterReset_cursor]

namespace RecordLaws

variable {s : State}

theorem plantReset (h : RecordLaws s) (lane : Lane) (straps : Straps) : RecordLaws (s.plantReset lane straps) := by
  unfold State.plantReset
  split
  · exact blocksReset _ (settledLanes_cursor _ _) _ (h.recorder.afterReset _) ..
  · exact h.answer ..

theorem powerUp (s : State) (straps : Straps) (pinLow : Bool) : RecordLaws (s.powerUp straps pinLow) := by
  unfold State.powerUp
  split
  · exact blocksReset _ (heldLanes_cursor _) _ Recorder.powerOn_inOrder ..
  · exact blocksReset _ (settledLanes_cursor _ _) _ Recorder.powerOn_inOrder ..

theorem pinReset (h : RecordLaws s) : RecordLaws s.pinReset := by
  unfold State.pinReset
  split
  · exact h
  all_goals exact blocksReset _ (heldLanes_cursor _) _ (h.recorder.afterReset _) ..

theorem pinRelease (h : RecordLaws s) (straps : Straps) : RecordLaws (s.pinRelease straps) := by
  unfold State.pinRelease
  split
  · refine ⟨h.recorder, fun j => ?_⟩
    show (((settledLanes s.lanes straps).get j).cursor).Names _
    rw [settledLanes_cursor]
    trivial
  all_goals exact h

theorem endInitialisation (h : RecordLaws s) : RecordLaws s.endInitialisation := by
  unfold State.endInitialisation
  split
  · exact h.frame
  all_goals exact h

/-! ### Every command -/

theorem exec (h : RecordLaws s) (c : Instr) : ∃ t, Machine.exec c s = .next t ∧ RecordLaws t := by
  cases c with
  | selectionStart lane => exact ⟨_, rfl, h.frame⟩
  | badFrame lane bytes => exact ⟨_, rfl, h.endBadFrame lane bytes⟩
  | pendingSelection lane bytes => exact ⟨_, rfl, h.endPending lane bytes⟩
  | nop | readStatus | readIdent | readLimits | readChannel => exact ⟨_, rfl, h.request_answer ..⟩
  | readNode | setShare | setChain | setTime | clearCapture | clearCauses =>
    exact ⟨_, rfl, h.request _ _ _ fun _ hu => hu.frame ⟨rfl, fun j => State.answer_cursor .., id⟩⟩
  | setMask lane mask => exact ⟨_, rfl, h.request _ _ _ fun _ hu => (hu.updLane lane).answer ..⟩
  | ackNotice lane kind => exact ⟨_, rfl, h.request _ _ _ fun _ hu => hu.ackNotice lane kind⟩
  | readTripSummary lane slot page => exact ⟨_, rfl, h.request _ _ _ fun _ hu => hu.readSummary lane slot page⟩
  | setCursor lane slot pinion index direction =>
    exact ⟨_, rfl, h.request _ _ _ fun _ hu => hu.setCursor lane slot pinion index direction⟩
  | readNext lane => exact ⟨_, rfl, h.request _ _ _ fun _ hu => hu.readNext lane⟩
  | release lane slot => exact ⟨_, rfl, h.request _ _ _ fun _ hu => hu.release lane slot⟩
  | sample lane iMeas n counter bridge demand =>
    exact ⟨_, rfl, h.request _ _ _ fun _ hu => hu.takeSample lane iMeas n counter bridge demand⟩
  | ackTrip lane => exact ⟨_, rfl, h.request _ _ _ fun _ hu => hu.ackTrip lane⟩
  | trip lane => exact ⟨_, rfl, h.request _ _ _ fun _ hu => (hu.reportTrip ..).answer ..⟩
  | arm lane => exact ⟨_, rfl, h.request _ _ _ fun _ hu => hu.arm lane⟩
  | disarm lane => exact ⟨_, rfl, h.request _ _ _ fun _ hu => hu.disarm lane⟩
  | start lane => exact ⟨_, rfl, h.request _ _ _ fun _ hu => hu.start lane⟩
  | inch lane => exact ⟨_, rfl, h.request _ _ _ fun _ hu => hu.inching lane⟩
  | stop lane => exact ⟨_, rfl, h.request _ _ _ fun _ hu => hu.stop lane⟩
  | clearTrip lane => exact ⟨_, rfl, h.request _ _ _ fun _ hu => hu.clearTrip lane⟩
  | setLimits => exact ⟨_, rfl, h.request _ _ _ fun _ hu => hu.setLimits ..⟩
  | setGains => exact ⟨_, rfl, h.request _ _ _ fun _ hu => hu.setGains ..⟩
  | setWatch => exact ⟨_, rfl, h.request _ _ _ fun _ hu => hu.setWatch ..⟩
  | setChannel => exact ⟨_, rfl, h.request _ _ _ fun _ hu => hu.setChannel ..⟩
  | discover lane count => exact ⟨_, rfl, h.request _ _ _ fun _ hu => hu.discover lane count⟩
  | reset lane straps => exact ⟨_, rfl, h.request _ _ _ fun _ hu => hu.plantReset lane straps⟩
  | powerOn straps pinLow => exact ⟨_, rfl, powerUp s straps pinLow⟩
  | resetPin => exact ⟨_, rfl, h.pinReset⟩
  | resetPinRelease straps => exact ⟨_, rfl, h.pinRelease straps⟩
  | initialisationEnd => exact ⟨_, rfl, h.endInitialisation⟩
  | timeCountAdvance => exact ⟨_, rfl, h.advanceTime⟩
  | rampTick => exact ⟨_, rfl, h.rampTick⟩
  | silenceTimerExpiry pinion => exact ⟨_, rfl, h.silenceExpires pinion⟩
  | stopTimerExpiry => exact ⟨_, rfl, h.stopExpires⟩
  | postTripTimerExpiry => exact ⟨_, rfl, h.postTripExpires⟩
  | roundStart => exact ⟨_, rfl, h.roundTimer⟩
  | replyWindowClose position words => exact ⟨_, rfl, h.closeWindow position words⟩
  | computationCompletion => exact ⟨_, rfl, h.computationCompletes⟩
  | levelComputationCompletion channel => exact ⟨_, rfl, h.levelComputationCompletes channel⟩
  | fetchCompletion lane => exact ⟨_, rfl, h.fetchCompletes lane⟩

end RecordLaws

/-- Settles O54: the queue is no part of the laws, and every command keeps them. -/
theorem recordLawsKept : Obligations.RecordLawsKept := by
  intro s t htable hsnapshots hcursors h
  rw [← recordLaws_iff]
  have hs := (recordLaws_iff s).mpr ⟨htable, hsnapshots, hcursors⟩
  unfold step at h
  split at h
  · cases h
    exact hs
  · rename_i c rest _
    have hqueue : RecordLaws { s with pending := rest } := hs.frame
    obtain ⟨u, hu, hkept⟩ := hqueue.exec c
    rw [hu] at h
    cases h
    exact hkept

end Sys2Proof.Machine
end

section
/-! PROOFS. The requests that read and release the slots of the trip table: READ TRIP SUMMARY, RELEASE. -/

namespace Sys2Proof.Machine

/-! ### Slot bytes (R145, R146) -/

theorem slotOf_byteOf (i : Fin 8) : slotOf (byteOf i.val) = some i := by
  have hlt := i.isLt
  have hval : (byteOf i.val).toNat = i.val := by
    rw [byteOf, BitVec.toNat_ofNat]
    omega
  unfold slotOf
  rw [dif_pos (by omega)]
  exact congrArg some (Fin.ext hval)

theorem slotOf_eq_none {b : Byte} (h : 8 ≤ b.toNat) : slotOf b = none := dif_neg (Nat.not_lt.mpr h)

/-! ### RELEASE (R146, R147) -/

section
variable {s : State} {lane : Lane} {b : Byte} {i : Fin 8}

theorem State.release_frees (hb : slotOf b = some i)
    (h : (s.trc.slots.get i).state = .closed ∨ (s.trc.slots.get i).state = .read) :
    s.release lane b = (s.updTrc fun t => t.setSlotState i .free).answer lane .release .ok [] := by
  unfold State.release
  rcases h with h | h <;> simp only [hb, h]

theorem State.release_filling (hb : slotOf b = some i) (h : (s.trc.slots.get i).state = .filling) :
    s.release lane b = s.answer lane .release .filling [] := by
  unfold State.release
  simp only [hb, h]

theorem State.release_empty
    (h : 8 < b.toNat ∨ ∃ i, b = byteOf i.val ∧ (s.trc.slots.get i).state = .free) :
    s.release lane b = s.answer lane .release .empty [] := by
  unfold State.release
  rcases h with h | ⟨i, rfl, h⟩
  · have hne : b ≠ 8 := by rintro rfl; exact absurd h (by decide)
    rw [slotOf_eq_none h.le]
    exact if_neg hne
  · simp only [slotOf_byteOf, h]

theorem State.release_overflow :
    s.release lane 8 = (s.updTrc Recorder.clearOverflow).answer lane .release .ok [] := rfl

end

/-- Settles O35: the slot byte names a slot, the overflow summary or nothing; the slot's state decides on the first. -/
theorem releaseFreesASlot : Obligations.ReleaseFreesASlot := by
  intro s lane b h
  refine ⟨fun i hb => ⟨fun hi => ?frees, fun hi => ?filling, fun hi => ?free⟩, fun hb => ?overflow, fun hb => ?above⟩
  case frees =>
    subst hb
    have hrun := exec_eq_of_takes (i := .release lane (byteOf i.val)) (payload := [byteOf i.val]) rfl h
      (State.release_frees (slotOf_byteOf i) (by exact hi))
    exact ⟨_, hrun, rfl, answered_of_quiet rfl .ok []⟩
  case filling =>
    subst hb
    exact refused_of_answer rfl h (State.release_filling (slotOf_byteOf i) (by exact hi))
  case free => exact refused_of_answer rfl h (State.release_empty (.inr ⟨i, hb, by exact hi⟩))
  case overflow =>
    subst hb
    have hrun := exec_eq_of_takes (i := .release lane 8) (payload := [8]) rfl h State.release_overflow
    exact ⟨_, hrun, rfl, answered_of_quiet rfl .ok []⟩
  case above => exact refused_of_answer rfl h (State.release_empty (.inl hb))

/-! ### READ TRIP SUMMARY (R145) -/

/-- Page 1 shows four later causes, 255, 255 for each that the list does not hold (Table 6). -/
theorem TripRecord.laterBytes_eq (x : TripRecord) :
    x.laterBytes 0 ++ x.laterBytes 1 ++ x.laterBytes 2 ++ x.laterBytes 3 =
      ((x.later.map Cause.bytes ++ List.replicate 4 [255, 255]).take 4).flatten := by
  unfold TripRecord.laterBytes
  match x.later with
  | [] | [_] | [_, _] | [_, _, _] | _ :: _ :: _ :: _ :: _ => simp [List.replicate]

/-- The two pages of a slot, field by field (R145; Table 6). -/
theorem Recorder.slotPage_eq (t : Recorder) (i : Fin 8) (page : Option Byte) : t.slotPage i page =
    [(t.slots.get i).state.code] ++ nat16 (t.slots.get i).record.number ++
      (if page = none ∨ page = some 0 then
        be32 (t.slots.get i).record.time ++ [(t.slots.get i).record.before.code] ++
          (t.slots.get i).record.cause.bytes ++ nat32 (t.slots.get i).record.value ++
          nat32 (t.slots.get i).record.limit ++ nat16 (t.slots.get i).record.limits.a ++
          nat16 (t.slots.get i).record.limits.b ++
          [if (t.slots.get i).record.cutShort then 1 else 0, byteOf (t.slots.get i).record.pre.a.length,
            byteOf (t.slots.get i).record.post.a.length, byteOf (t.slots.get i).record.pre.b.length,
            byteOf (t.slots.get i).record.post.b.length]
      else
        [byteOf (t.slots.get i).record.later.length, if (t.slots.get i).record.more then 1 else 0] ++
          (((t.slots.get i).record.later.map Cause.bytes ++ List.replicate 4 [255, 255]).take 4).flatten ++
          (t.slots.get i).record.channels.toList.map ChannelState.code ++ nat16 t.tripCount) := by
  rw [← TripRecord.laterBytes_eq]
  unfold Recorder.slotPage TripRecord.page0 TripRecord.page1
  simp only [firstPage_iff, List.append_assoc]
  rfl

/-- The index ends with the overflow summary and its unrecorded count, all 0 where the summary is empty (Table 6). -/
theorem Recorder.index_eq (t : Recorder) : t.index = nat16 t.tripCount ++ t.slots.toList.map (fun x => x.state.code) ++
    (match t.overflow with
     | some o => [1] ++ nat16 o.number ++ be32 o.time ++ o.cause.bytes ++ [byteOf t.unrecorded]
     | none => [0, 0, 0, 0, 0, 0, 0, 0, 0, 0]) := by
  unfold Recorder.index Recorder.unrecordedByte
  rw [List.append_assoc]
  cases t.overflow <;> rfl

section
variable {s : State} {lane : Lane} {b : Byte} {page : Option Byte} {i : Fin 8}

theorem State.readSummary_page (hb : slotOf b = some i) (h : (s.trc.slots.get i).state ≠ .free) :
    s.readSummary lane b page =
      (s.markRead lane i).answer lane .readTripSummary .ok ((s.markRead lane i).trc.slotPage i page) := by
  unfold State.readSummary
  simp only [hb]
  exact if_neg h

theorem State.readSummary_empty
    (h : 8 < b.toNat ∨ ∃ i, b = byteOf i.val ∧ (s.trc.slots.get i).state = .free) :
    s.readSummary lane b page = s.answer lane .readTripSummary .empty [] := by
  unfold State.readSummary
  rcases h with h | ⟨i, rfl, h⟩
  · have hne : b ≠ 8 := by rintro rfl; exact absurd h (by decide)
    rw [slotOf_eq_none h.le]
    exact if_neg hne
  · simp only [slotOf_byteOf]
    exact if_pos h

theorem State.readSummary_index :
    s.readSummary lane 8 page = s.answer lane .readTripSummary .ok s.trc.index := rfl

/-- The mark is the slot's new state, and nothing else changes (R145). -/
theorem State.markRead_eq (s : State) (lane : Lane) (i : Fin 8) : s.markRead lane i =
    s.updTrc fun t => t.setSlotState i
      (if (s.lanes.get lane).role = .plant ∧ (s.trc.slots.get i).state = .closed then .read
        else (s.trc.slots.get i).state) := by
  unfold State.markRead
  split
  · rfl
  · show s = { s with trc := { s.trc with slots := s.trc.slots.set i (s.trc.slots.get i) } }
    rw [Eight.set_get]

theorem Recorder.setSlotState_get (t : Recorder) (i : Fin 8) (x : SlotState) :
    (t.setSlotState i x).slots.get i = ⟨x, (t.slots.get i).record⟩ := Eight.get_set_self ..

end

/-- Settles O18: the slot byte names a slot, the index or nothing; the mark comes before the page. -/
theorem readTripSummaryReply : Obligations.ReadTripSummaryReply := by
  intro s lane b page h
  have hrun := exec_of_takes (i := .readTripSummary lane b page) (payload := b :: page.toList)
    (by rw [← optionalByte_eq_toList]; rfl) h
  refine ⟨_, hrun, fun i hb hi => ?page, fun hempty => ?empty, fun hb => ?index⟩
  case page =>
    subst hb
    rw [State.readSummary_page (slotOf_byteOf i) (by exact hi), State.markRead_eq, State.updTrc_trc,
      Recorder.slotPage_eq, Recorder.setSlotState_get, State.closeSelection_role]
    exact ⟨rfl, answered_of_quiet rfl .ok _⟩
  case empty =>
    rw [State.readSummary_empty (by exact hempty)]
    exact ⟨rfl, answered_of_quiet rfl .empty []⟩
  case index =>
    subst hb
    rw [State.readSummary_index, Recorder.index_eq]
    exact ⟨rfl, answered_of_quiet rfl .ok _⟩

end Sys2Proof.Machine
end

section
/-! PROOFS. The requests that read records back through a lane's cursor: SET CURSOR and its fetch, READ NEXT. -/

namespace Sys2Proof

theorem Four.set_set {α : Type} (t : Four α) (i : Fin 4) (x y : α) : (t.set i x).set i y = t.set i y := by
  fin_cases i <;> rfl

namespace Machine

/-! ### Writes to one lane -/

theorem State.updLane_updLane (s : State) (lane : Lane) (f g : LaneState → LaneState) :
    (s.updLane lane f).updLane lane g = s.updLane lane fun l => g (f l) := by
  unfold State.updLane State.updLanes
  simp only [Four.get_set_self, Four.set_set]

theorem State.putCursor_self {s : State} {lane : Lane} {c : Cursor} (h : (s.lanes.get lane).cursor = c) :
    s.putCursor lane c = s := by
  subst h
  show { s with lanes := s.lanes.set lane (s.lanes.get lane) } = s
  rw [Four.set_get]

theorem Recorder.count_eq (t : Recorder) (i : Fin 8) (k : Pinion) :
    t.count i k = ((t.slots.get i).record.pre.get k).length + ((t.slots.get i).record.post.get k).length :=
  List.length_append

section
variable {s : State} {lane : Lane}

/-- A taken request that writes its lane's cursor and answers, as one write to the lane. -/
theorem exec_of_putCursor_answer {i : Instr} {kind : RequestKind} {payload : List Byte} {body : State → State}
    {c : Cursor} {status : Status} {reply : List Byte}
    (hx : exec i s = .next (s.request lane kind payload body)) (h : Takes s lane kind)
    (hb : body (s.closeSelection lane (requestFrame kind payload)) =
      ((s.closeSelection lane (requestFrame kind payload)).putCursor lane c).answer lane kind status reply) :
    exec i s = .next
      { s with
        lanes := s.lanes.set lane
          { s.lanes.get lane with
            selection := .none
            receiver := requestFrame kind payload
            cursor := c
            holder := ⟨kind.code, status, s.rc.drive, reply⟩ } } := by
  rw [exec_eq_of_takes hx h hb]
  unfold State.answer State.putCursor State.closeSelection
  rw [State.updLane_updLane, State.updLane_updLane]
  rfl

/-! ### SET CURSOR (R151) -/

variable {b pinion index direction : Byte} {i : Fin 8}

theorem State.setCursor_sets (hb : slotOf b = some i) (hi : (s.trc.slots.get i).state ≠ .free)
    (hcount : s.trc.count i (pinionOf pinion) ≠ 0) :
    s.setCursor lane b pinion index direction =
      (s.putCursor lane
        (.fetching (s.trc.placeOf i (pinionOf pinion) index (directionOf direction)))).answer lane .setCursor .accepted
          (s.trc.cursorBytes (s.trc.placeOf i (pinionOf pinion) index (directionOf direction))) := by
  unfold State.setCursor
  simp only [hb]
  exact if_neg (not_or.mpr ⟨hi, hcount⟩)

/-- A slot above 7, a FREE slot and an empty snapshot are one refusal (R151). -/
theorem State.setCursor_empty
    (h : 7 < b.toNat ∨ ∃ i, b = byteOf i.val ∧ ((s.trc.slots.get i).state = .free ∨
      (s.trc.slots.get i).record.snapshots (pinionOf pinion) = [])) :
    s.setCursor lane b pinion index direction = s.answer lane .setCursor .empty [] := by
  unfold State.setCursor
  rcases h with h | ⟨i, rfl, h⟩
  · rw [slotOf_eq_none h]
  · simp only [slotOf_byteOf]
    exact if_pos (h.imp_right fun h => List.length_eq_zero_iff.mpr h)

/-- The index of an accepted SET CURSOR is the one asked for, or the last where there are not so many (R151). -/
theorem Recorder.placeOf_eq (t : Recorder) (i : Fin 8) (k : Pinion) (index : Byte) (d : Direction) :
    t.placeOf i k index d =
      ⟨i, (t.slots.get i).record.number, k,
        if index.toNat < t.count i k then index.toNat else t.count i k - 1, d⟩ := by
  have hclamp : min index.toNat (t.count i k - 1) =
      if index.toNat < t.count i k then index.toNat else t.count i k - 1 := by
    split <;> omega
  unfold Recorder.placeOf
  rw [hclamp]

/-! ### FETCH_COMPLETION (R152) -/

theorem State.fetchCompletes_of_record {p : CursorPlace} {r : Snapshot} (hc : (s.lanes.get lane).cursor = .fetching p)
    (hr : ((s.trc.slots.get p.slot).record.snapshots p.pinion)[p.index]? = some r) :
    s.fetchCompletes lane =
      s.updLane lane fun l => { l with cursor := .fetched p r, notices := l.notices ||| 0x10 } := by
  unfold State.fetchCompletes
  simp only [hc, hr]
  exact s.updLane_updLane lane _ _

/-- A lane without a fetch has no completion (log entry 4). -/
theorem State.fetchCompletes_of_ne (hc : ∀ p, (s.lanes.get lane).cursor ≠ .fetching p) :
    s.fetchCompletes lane = s := by
  unfold State.fetchCompletes
  split
  · exact absurd ‹_› (hc _)
  all_goals rfl

end

/-- Settles O19: the slot byte, the slot's state and the count decide on the request; the completion is one write to
the lane. -/
theorem setCursorAndItsFetch : Obligations.SetCursorAndItsFetch := by
  refine ⟨fun s lane b pinion index direction h => ⟨?sets, fun hempty => ?empty⟩,
    fun s lane => ⟨fun p r hc hr => ?completes, fun hc => ?stays⟩⟩
  case sets =>
    rintro i rfl _ _ rfl rfl hi x count at_ hpos
    have hcount : s.trc.count i (pinionOf pinion) = count := s.trc.count_eq i _
    have hset := exec_of_putCursor_answer (i := .setCursor lane (byteOf i.val) pinion index direction)
      (payload := [byteOf i.val, pinion, index, direction]) rfl h
      (State.setCursor_sets (slotOf_byteOf i) (by exact hi) (by exact hcount.trans_ne hpos.ne'))
    rw [State.closeSelection_trc, Recorder.placeOf_eq, Recorder.cursorBytes, hcount] at hset
    exact hset
  case empty =>
    have hrun := exec_eq_of_takes (i := .setCursor lane b pinion index direction)
      (payload := [b, pinion, index, direction]) rfl h (State.setCursor_empty (by exact hempty))
    exact ⟨_, hrun, rfl, answered_of_quiet rfl .empty []⟩
  case completes => exact congrArg Host.Outcome.next (State.fetchCompletes_of_record hc hr)
  case stays => exact congrArg Host.Outcome.next (State.fetchCompletes_of_ne hc)

/-! ### READ NEXT (R153, R154) -/

section
variable {s : State} {lane : Lane} {p : CursorPlace} {r : Snapshot}

theorem State.readNext_idle (h : (s.lanes.get lane).cursor = .idle) :
    s.readNext lane = (s.putCursor lane .idle).answer lane .readNext .noCursor [] := by
  rw [State.putCursor_self h]
  unfold State.readNext
  rw [h]

theorem State.readNext_fetching (h : (s.lanes.get lane).cursor = .fetching p) :
    s.readNext lane = (s.putCursor lane (.fetching p)).answer lane .readNext .wait
      [byteOf p.slot.val, pinionCode p.pinion, byteOf p.index] := by
  rw [State.putCursor_self h]
  unfold State.readNext
  rw [h]

theorem State.readNext_fetched (h : (s.lanes.get lane).cursor = .fetched p r) :
    s.readNext lane =
      (s.putCursor lane (.fetching (s.trc.stepPlace p))).answer lane .readNext .ok (s.trc.nextBytes p r) := by
  unfold State.readNext
  rw [h]

theorem State.readNext_gone (h : (s.lanes.get lane).cursor = .gone p) :
    s.readNext lane = (s.putCursor lane .idle).answer lane .readNext .gone (byteOf p.slot.val :: nat16 p.trip) := by
  unfold State.readNext
  rw [h]
  rfl

/-- The payload of OK, field by field: the record's place, then its twelve bytes (R153; Table 6). -/
theorem Recorder.nextBytes_eq (t : Recorder) (p : CursorPlace) (r : Snapshot) :
    t.nextBytes p r =
      nat16 p.trip ++ [byteOf p.slot.val, pinionCode p.pinion, byteOf p.index,
        if p.index < ((t.slots.get p.slot).record.pre.get p.pinion).length then 0 else 1,
        byteOf (t.count p.slot p.pinion)] ++
        be16 r.seq ++ be16 r.iMeas ++ int16 r.iRef ++ int16 r.vDem ++ nat16 r.limit ++
        [packBits [r.satHi, r.satLo, r.limited, r.gap, r.post, r.trigger, r.abandoned, r.demand], r.drive.code] := by
  have hpart (n : Nat) : flagByte (decide (n ≤ p.index)) = if p.index < n then 0 else 1 := by
    simp only [flagByte, decide_eq_true_eq, ← Nat.not_lt, ite_not]
  unfold Recorder.nextBytes Snapshot.bytes
  simp only [hpart, List.append_assoc]

end

/-- Settles O20: each state of the cursor writes the lane's cursor (IDLE and FETCHING the one that stands) and its
reply. -/
theorem readNextByCursorState : Obligations.ReadNextByCursorState := by
  intro s lane h
  have hclosed : ((s.closeSelection lane (requestFrame .readNext [])).lanes.get lane).cursor =
      (s.lanes.get lane).cursor := State.closeSelection_cursor ..
  cases hc : (s.lanes.get lane).cursor with
  | idle =>
    exact ⟨_, _, _, exec_of_putCursor_answer rfl h (State.readNext_idle (hclosed.trans hc)), rfl, rfl, rfl⟩
  | fetching p =>
    exact ⟨_, _, _, exec_of_putCursor_answer rfl h (State.readNext_fetching (hclosed.trans hc)), rfl, rfl, rfl⟩
  | fetched p r =>
    refine ⟨_, _, _, exec_of_putCursor_answer rfl h (State.readNext_fetched (hclosed.trans hc)), ?steps, rfl,
      _, packBits_hasBits _, ?place⟩
    case steps =>
      rw [State.closeSelection_trc, Recorder.stepPlace, Recorder.count_eq]
      rfl
    case place => rw [State.closeSelection_trc, Recorder.nextBytes_eq, Recorder.count_eq]
  | gone p =>
    exact ⟨_, _, _, exec_of_putCursor_answer rfl h (State.readNext_gone (hclosed.trans hc)), rfl, rfl, rfl⟩

end Machine
end Sys2Proof
end

section
/-! PROOFS. Frames of requests: what the checks of R161 make of some bytes, the decoding of a request's own frame, and
the codes and permissions of the tables. -/

namespace Sys2Proof

open Machine

/-! ### Kinds and lengths (Table 4) -/

namespace Machine

theorem kindOfCode_eq_some_iff {b : Byte} {k : RequestKind} : kindOfCode b = some k ↔ k.code = b := by
  constructor
  · intro h
    exact beq_iff_eq.mp (List.find?_some (p := fun k : RequestKind => k.code == b) h)
  · rintro rfl
    cases k <;> rfl

/-- No request has a payload longer than 24 bytes. -/
theorem RequestKind.lengths_le {k : RequestKind} {n : Nat} (h : n ∈ k.lengths) : n ≤ 24 := by
  have hall : ∀ m ∈ k.lengths, m ≤ 24 := by cases k <;> decide
  exact hall n h

/-! ### The checks of a frame (R161) -/

section
variable {code n c : Byte} {payload after : List Byte}

/-- With as many bytes as the length byte asks for, the CRC byte is judged, then the kind with its length. -/
theorem checkFrame_complete (hn : n.toNat ≤ 24) (hlen : payload.length = n.toNat) :
    (c ≠ crc8 (code :: n :: payload) →
      checkFrame (code :: n :: (payload ++ c :: after)) = .error .badCrc) ∧
    (c = crc8 (code :: n :: payload) → (∀ k : RequestKind, k.code = code → n.toNat ∉ k.lengths) →
      checkFrame (code :: n :: (payload ++ c :: after)) = .error .badLength) ∧
    (c = crc8 (code :: n :: payload) → ∀ k : RequestKind, k.code = code → n.toNat ∈ k.lengths →
      checkFrame (code :: n :: (payload ++ c :: after)) = .ok (k, payload)) := by
  have hshort : ¬(payload ++ c :: after).length < n.toNat + 1 := by
    rw [List.length_append, List.length_cons]
    omega
  have hcrc : (payload ++ c :: after)[n.toNat]? = some c := by rw [← hlen]; simp
  have htake : (payload ++ c :: after).take n.toNat = payload := by rw [← hlen]; simp
  simp only [checkFrame, Nat.not_lt.mpr hn, hshort, hcrc, htake, if_false, ne_eq, Option.some.injEq]
  refine ⟨fun hc => if_pos hc, fun hc hkind => ?_, fun hc k hk hmem => ?_⟩
  · rw [if_neg (not_not.mpr hc)]
    cases hcode : kindOfCode code with
    | none => rfl
    | some k => simp [hkind k (kindOfCode_eq_some_iff.mp hcode)]
  · rw [if_neg (not_not.mpr hc), kindOfCode_eq_some_iff.mpr hk]
    simp [hmem]

end

/-- The first check that some bytes fail is the one that answers them. -/
theorem FrameFails.checkFrame_eq {bytes : List Byte} {status : Status} (h : FrameFails bytes status) :
    checkFrame bytes = .error status := by
  cases h with
  | one code => rfl
  | long code n rest hn => exact if_pos hn
  | short code n rest hn hrest => exact (if_neg (Nat.not_lt.mpr hn)).trans (if_pos hrest)
  | crc code n payload after c hn hlen hc =>
    obtain ⟨hbadCrc, -, -⟩ := checkFrame_complete (code := code) (c := c) (after := after) hn hlen
    exact hbadCrc hc
  | kind code n payload after hn hlen hkind =>
    obtain ⟨-, hbadKind, -⟩ := checkFrame_complete (code := code) (after := after) hn hlen
    exact hbadKind rfl hkind

/-- A request's whole frame passes every check, whatever follows the CRC byte (Table 3, note 2). -/
theorem checkFrame_requestFrame {kind : RequestKind} {payload : List Byte} (h : payload.length ∈ kind.lengths)
    (after : List Byte) : checkFrame (requestFrame kind payload ++ after) = .ok (kind, payload) := by
  have hle := RequestKind.lengths_le h
  have hn : (byteOf payload.length).toNat = payload.length := by
    rw [byteOf, BitVec.toNat_ofNat]
    omega
  have hbytes : requestFrame kind payload ++ after =
      kind.code :: byteOf payload.length ::
        (payload ++ crc8 (kind.code :: byteOf payload.length :: payload) :: after) := by
    simp [requestFrame]
  obtain ⟨-, -, hok⟩ := checkFrame_complete (code := kind.code) (after := after) (by omega) hn.symm
  rw [hbytes]
  exact hok rfl kind rfl (by rwa [hn])

end Machine

/-! ### Requests and their payloads (Table 6) -/

section
variable {i : Instr} {lane : Lane} {p : RequestKind × List Byte}

/-- A request's payload has a length that Table 4 gives its kind. -/
theorem encodePayload_length (h : encodePayload i = some p) : p.2.length ∈ p.1.lengths := by
  cases i with
  | selectionStart | badFrame | pendingSelection | powerOn | resetPin | resetPinRelease | initialisationEnd
  | timeCountAdvance | rampTick | silenceTimerExpiry | stopTimerExpiry | postTripTimerExpiry | roundStart
  | replyWindowClose | computationCompletion | levelComputationCompletion | fetchCompletion => cases h
  | readLimits lane page => cases h; exact Laws.Frame.readLimits lane page
  | readTripSummary lane slot page => cases h; exact Laws.Frame.readTripSummary lane slot page
  | sample lane iMeas n counter bridge demand => cases h; exact Laws.Frame.sample lane iMeas n counter bridge demand
  | nop | readStatus | readIdent | readChannel | readNode | setCursor | readNext | ackNotice | setMask | ackTrip | trip
  | arm | disarm | start | inch | stop | clearTrip | setLimits | setGains | setShare | setWatch | setChannel | setChain
  | discover | release | setTime | clearCapture | clearCauses | reset =>
    cases h
    exact List.mem_of_elem_eq_true rfl

theorem exists_encodePayload (hl : requestLane i = some lane) : ∃ p, encodePayload i = some p := by
  cases i with
  | selectionStart | badFrame | pendingSelection | powerOn | resetPin | resetPinRelease | initialisationEnd
  | timeCountAdvance | rampTick | silenceTimerExpiry | stopTimerExpiry | postTripTimerExpiry | roundStart
  | replyWindowClose | computationCompletion | levelComputationCompletion | fetchCompletion => cases hl
  | _ => exact ⟨_, rfl⟩

end

/-! ### Decoding a request's own frame (10.2) -/

/-- The two bytes of a field, joined again. -/
theorem be16_joined (v : Word16) : (v.extractLsb' 8 8 ++ v.extractLsb' 0 8 : BitVec (8 + 8)) = v := by
  rw [BitVec.extractLsb'_append_extractLsb'_eq_extractLsb' (by decide)]
  exact BitVec.extractLsb'_eq_self

/-- The four bytes of a field, joined again. -/
theorem be32_joined (v : Word32) :
    (v.extractLsb' 24 8 ++ v.extractLsb' 16 8 ++ v.extractLsb' 8 8 ++ v.extractLsb' 0 8 : BitVec (8 + 8 + 8 + 8)) =
      v := by
  rw [BitVec.extractLsb'_append_extractLsb'_eq_extractLsb' (by decide),
    BitVec.extractLsb'_append_extractLsb'_eq_extractLsb' (by decide),
    BitVec.extractLsb'_append_extractLsb'_eq_extractLsb' (by decide)]
  exact BitVec.extractLsb'_eq_self

/-- A request's payload decodes to that request; only RESET takes its straps from the pins. -/
theorem decodePayload_encodePayload {i : Instr} {lane : Lane} {p : RequestKind × List Byte}
    (hl : requestLane i = some lane) (hp : encodePayload i = some p) (straps : Straps) :
    decodePayload lane (requestStraps straps i) p.1 p.2 = some i := by
  cases i with
  | selectionStart | badFrame | pendingSelection | powerOn | resetPin | resetPinRelease | initialisationEnd
  | timeCountAdvance | rampTick | silenceTimerExpiry | stopTimerExpiry | postTripTimerExpiry | roundStart
  | replyWindowClose | computationCompletion | levelComputationCompletion | fetchCompletion => cases hl
  | nop | readStatus | readIdent | readChannel | readNode | setCursor | readNext | ackNotice | setMask | ackTrip | trip
  | arm | disarm | start | inch | stop | clearTrip | setChain | discover | release | clearCapture | clearCauses
  | reset =>
    cases hl
    cases hp
    rfl
  | readLimits lane page | readTripSummary lane slot page =>
    cases hl
    cases hp
    cases page <;> rfl
  | sample lane iMeas n counter bridge demand =>
    cases hl
    cases hp
    cases demand with
    | none =>
      show some (Instr.sample lane (_ ++ _) (_ ++ _) counter bridge none) = _
      simp only [be16_joined]
    | some T =>
      show some (Instr.sample lane (_ ++ _) (_ ++ _) counter bridge (some (_ ++ _))) = _
      simp only [be16_joined]
  | setLimits lane =>
    cases hl
    cases hp
    show some (Instr.setLimits lane (_ ++ _) (_ ++ _) (_ ++ _) (_ ++ _) (_ ++ _) (_ ++ _)) = _
    simp only [be16_joined]
  | setGains lane kp ki feedforward =>
    cases hl
    cases hp
    show some (Instr.setGains lane (_ ++ _) (_ ++ _) feedforward (_ ++ _) (_ ++ _)) = _
    simp only [be16_joined]
  | setShare lane lead =>
    cases hl
    cases hp
    show some (Instr.setShare lane lead (_ ++ _)) = _
    simp only [be16_joined]
  | setWatch lane oc q decay imbalance shift persistence zeroBand zeroSpeed stopTimeout silenceCode =>
    cases hl
    cases hp
    show some (Instr.setWatch lane (_ ++ _) (_ ++ _ ++ _ ++ _) (_ ++ _) (_ ++ _) shift persistence (_ ++ _) (_ ++ _)
      (_ ++ _) silenceCode) = _
    simp only [be16_joined, be32_joined]
  | setChannel lane channel enabled group alert danger hysteresis tripOnLoss =>
    cases hl
    cases hp
    show some (Instr.setChannel lane channel enabled group (_ ++ _) (_ ++ _) (_ ++ _) tripOnLoss) = _
    simp only [be16_joined]
  | setTime lane time =>
    cases hl
    cases hp
    show some (Instr.setTime lane (_ ++ _ ++ _ ++ _)) = _
    rw [be32_joined]

/-- Settles O60: the frame passes the checks with its own kind and payload, and the payload decodes field by field. -/
theorem frameRoundTrip : Obligations.FrameRoundTrip := by
  intro i lane straps frame after hl hframe
  obtain ⟨p, hp, rfl⟩ := Option.map_eq_some_iff.mp hframe
  unfold decodeFrame
  rw [checkFrame_requestFrame (encodePayload_length hp)]
  simp only [decodePayload_encodePayload hl hp]

/-! ### Codes and permissions (Tables 1, 2, 4, 5 and 8; R159) -/

namespace Machine

/-- Table 4, by the range of the kind byte. -/
theorem RequestKind.permitted_iff (k : RequestKind) (r : Role) : k.permitted r = true ↔
    k.code.toNat < 0x10 ∨ ((k.code = 0x10 ∨ k.code = 0x11) ∧ (r = .pinionA ∨ r = .pinionB)) ∨
      (k.code = 0x12 ∧ r ≠ .monitor) ∨ (0x20 ≤ k.code.toNat ∧ k.code.toNat ≤ 0x31 ∧ r = .plant) := by
  cases k with
  | nop | readStatus | readIdent | readLimits | readChannel | readNode | readTripSummary | setCursor | readNext
  | ackNotice | setMask => exact iff_of_true rfl (.inl (by decide))
  | sample | ackTrip => cases r <;> decide
  | trip => cases r <;> decide
  | arm | disarm | start | inch | stop | clearTrip | setLimits | setGains | setShare | setWatch | setChannel | setChain
  | discover | release | setTime | clearCapture | clearCauses | reset => cases r <;> decide

end Machine

/-- Settles O10: Table 4 by its kind bytes, and the tables of codes entry by entry. -/
theorem codesAndPermissions : Obligations.CodesAndPermissions := by
  refine ⟨⟨RequestKind.permitted_iff, fun b k => kindOfCode_eq_some_iff⟩,
    rfl, rfl, rfl, rfl, rfl, rfl, rfl, rfl, rfl, fun k b ha hb => ?_, fun c => ⟨rfl, rfl⟩, fun lane => rfl, rfl, rfl⟩
  cases k with
  | a => cases ha rfl; exact ⟨rfl, rfl, rfl, rfl, rfl⟩
  | b => cases hb rfl; exact ⟨rfl, rfl, rfl, rfl, rfl⟩

end Sys2Proof
end

section
/-! PROOFS. The notices of a lane: the attention line, the top notice, and the requests that change set and mask. -/

namespace Sys2Proof.Machine

/-! ### Notice kinds and their bits (R167, R168; Table 8) -/

theorem noticeKinds_number : ∀ (i : Nat) (h : i < noticeKinds.length), noticeKinds[i].number = i := by decide

theorem Notice.bit_getLsbD (k : Notice) {i : Nat} (hi : i < 8) : k.bit.getLsbD i = decide (i = k.number) := by
  have hbits : ∀ i < 8, k.bit.getLsbD i = decide (i = k.number) := by cases k <;> decide
  exact hbits i hi

theorem noticeOf_eq_none_iff {b : Byte} : noticeOf b = none ↔ 8 ≤ b.toNat := List.getElem?_eq_none_iff

theorem Notice.number_of_noticeOf {b : Byte} {k : Notice} (h : noticeOf b = some k) : k.number = b.toNat := by
  obtain ⟨hb, rfl⟩ := List.getElem?_eq_some_iff.mp h
  exact noticeKinds_number _ hb

/-! ### The attention line and the top notice (R168) -/

theorem LaneState.attention_iff (l : LaneState) :
    l.attention = true ↔ ∃ i, i < 8 ∧ l.notices.getLsbD i = true ∧ l.mask.getLsbD i = false := by
  have hbit (i : Nat) (hi : i < 8) : (l.notices &&& ~~~l.mask).getLsbD i = (0 : Byte).getLsbD i ↔
      ¬(l.notices.getLsbD i = true ∧ l.mask.getLsbD i = false) := by
    rw [BitVec.getLsbD_and, BitVec.getLsbD_not]
    cases l.notices.getLsbD i <;> cases l.mask.getLsbD i <;> simp [hi]
  rw [LaneState.attention, bne_iff_ne, ne_eq, BitVec.eq_of_getLsbD_eq_iff]
  constructor
  · intro h
    by_contra hnone
    exact h fun i hi => (hbit i hi).mpr fun hi' => hnone ⟨i, hi, hi'⟩
  · rintro ⟨i, hi, hunmasked⟩ h
    exact (hbit i hi).mp (h i hi) hunmasked

/-- The unmasked kinds are tried in the order of their numbers (R168). -/
theorem LaneState.topNotice_isTop (l : LaneState) : IsTop l.notices l.mask l.topNotice := by
  unfold LaneState.topNotice
  cases h : noticeKinds.find? fun k => l.has k && !l.mask.getLsbD k.number with
  | none =>
    rw [List.find?_eq_none] at h
    refine .inr ⟨rfl, fun i hi => ?_⟩
    have hkind := h noticeKinds[i] (List.getElem_mem hi)
    rw [LaneState.has, noticeKinds_number i hi] at hkind
    exact Bool.eq_false_iff.mpr hkind
  | some k =>
    obtain ⟨hk, i, hi, rfl, hbelow⟩ := List.find?_eq_some_iff_getElem.mp h
    rw [LaneState.has, noticeKinds_number i hi, Bool.and_eq_true, Bool.not_eq_true'] at hk
    obtain ⟨hin, hunmasked⟩ := hk
    refine .inl ⟨i, hi, congrArg byteOf (noticeKinds_number i hi), hin, hunmasked, fun j hj => ?_⟩
    have hkind := hbelow j hj
    rw [LaneState.has, noticeKinds_number j (hj.trans hi), Bool.not_eq_true'] at hkind
    exact hkind

/-- Settles O12: the line bit by bit, the top notice by the first kind that is found. -/
theorem attentionAndTopNotice : Obligations.AttentionAndTopNotice :=
  fun l => ⟨l.attention_iff, l.topNotice_isTop⟩

/-! ### NOP, SET MASK and ACK NOTICE (R163, R167, R168) -/

/-- The notice set without the kind that a byte names (R167). -/
def noticesWithout (b notices : Byte) : Byte :=
  match noticeOf b with
  | some k => notices &&& ~~~k.bit
  | none => notices

theorem noticesWithout_getLsbD (b notices : Byte) {i : Nat} (hi : i < 8) :
    (noticesWithout b notices).getLsbD i = (notices.getLsbD i && decide (i ≠ b.toNat)) := by
  unfold noticesWithout
  cases h : noticeOf b with
  | none =>
    have hb := noticeOf_eq_none_iff.mp h
    have : i ≠ b.toNat := by omega
    simp [this]
  | some k =>
    have hnumber := Notice.number_of_noticeOf h
    rw [BitVec.getLsbD_and, BitVec.getLsbD_not, Notice.bit_getLsbD k hi, hnumber]
    simp [hi]

theorem State.ackNotice_eq (s : State) (lane : Lane) (b : Byte) :
    s.ackNotice lane b =
      (s.updLane lane fun l => { l with notices := noticesWithout b l.notices }).answer lane .ackNotice .ok
        [noticesWithout b (s.lanes.get lane).notices, (s.lanes.get lane).mask] := by
  unfold State.ackNotice noticesWithout State.noticeBytes
  cases noticeOf b with
  | none =>
    have hsame : (s.updLane lane fun l => { l with notices := l.notices }) = s := by
      show { s with lanes := s.lanes.set lane (s.lanes.get lane) } = s
      rw [Four.set_get]
    simp only [hsame]
  | some k => simp [LaneState.acknowledge]

/-- Settles O11: each block is one write to the lane and its answer. -/
theorem nopAckNoticeAndSetMask : Obligations.NopAckNoticeAndSetMask := by
  refine ⟨⟨fun s lane h => ?nop, fun s lane m h => ?setMask⟩, fun s lane b h => ?ackNotice⟩
  case nop => exact ⟨_, exec_of_takes (i := .nop lane) rfl h, rfl, answered_of_quiet rfl .ok []⟩
  case setMask =>
    rw [exec_of_takes (i := .setMask lane m) (payload := [m]) rfl h]
    unfold State.setMask State.answer State.closeSelection State.noticeBytes
    simp only [State.updLane_updLane, State.updLane_get, if_true]
    rfl
  case ackNotice =>
    refine ⟨noticesWithout b (s.lanes.get lane).notices, fun i hi => noticesWithout_getLsbD b _ hi, ?_⟩
    rw [exec_of_takes (i := .ackNotice lane b) (payload := [b]) rfl h, State.ackNotice_eq]
    unfold State.answer State.closeSelection
    simp only [State.updLane_updLane, State.updLane_get, if_true]
    rfl

end Sys2Proof.Machine
end

section
/-! PROOFS. Requests as a whole: the one way in which each is judged, and what a block may change for a lane of role
MONITOR. -/

namespace Sys2Proof.Machine

/-! ### What a request from a MONITOR lane may change (R166) -/

/-- Only the lane's own reply holder, notice set, notice mask and read cursor differ, and the counter of free values
(log entry 11). -/
structure OwnLaneOnly (lane : Lane) (s t : State) : Prop where
  blocks : t = { s with lanes := t.lanes, openReads := t.openReads }
  others : ∀ j, j ≠ lane → t.lanes.get j = s.lanes.get j
  own : t.lanes.get lane =
    { s.lanes.get lane with
      holder := (t.lanes.get lane).holder
      notices := (t.lanes.get lane).notices
      mask := (t.lanes.get lane).mask
      cursor := (t.lanes.get lane).cursor }

namespace OwnLaneOnly

variable {lane : Lane} {s t u : State}

theorem refl (s : State) (lane : Lane) : OwnLaneOnly lane s s := ⟨rfl, fun _ _ => rfl, rfl⟩

theorem trans (h : OwnLaneOnly lane s t) (h' : OwnLaneOnly lane t u) : OwnLaneOnly lane s u where
  blocks :=
    calc u = { t with lanes := u.lanes, openReads := u.openReads } := h'.blocks
      _ = { s with lanes := u.lanes, openReads := u.openReads } := by rw [h.blocks]
  others j hj := (h'.others j hj).trans (h.others j hj)
  own := by
    conv_lhs => rw [h'.own, h.own]

/-- One write to the lane. -/
theorem updLane {f : LaneState → LaneState}
    (hf : ∀ l, f l = { l with
      holder := (f l).holder, notices := (f l).notices, mask := (f l).mask, cursor := (f l).cursor }) :
    OwnLaneOnly lane s (s.updLane lane f) where
  blocks := rfl
  others j hj := by rw [State.updLane_get, if_neg hj]
  own := by
    rw [State.updLane_get, if_pos rfl]
    exact hf _

theorem answer (h : OwnLaneOnly lane s t) (kind : RequestKind) (status : Status) (reply : List Byte) :
    OwnLaneOnly lane s (t.answer lane kind status reply) :=
  h.trans (updLane fun _ => rfl)

theorem putCursor (s : State) (lane : Lane) (c : Cursor) : OwnLaneOnly lane s (s.putCursor lane c) :=
  updLane fun _ => rfl

theorem setCursor (s : State) (lane : Lane) (slot pinion index direction : Byte) :
    OwnLaneOnly lane s (s.setCursor lane slot pinion index direction) := by
  unfold State.setCursor
  split
  · exact (refl ..).answer ..
  · dsimp only
    split
    · exact (refl ..).answer ..
    · exact (putCursor ..).answer ..

theorem readNext (s : State) (lane : Lane) : OwnLaneOnly lane s (s.readNext lane) := by
  unfold State.readNext
  split
  · exact (refl ..).answer ..
  · exact (refl ..).answer ..
  · exact (putCursor ..).answer ..
  · exact (putCursor ..).answer ..

theorem ackNotice (s : State) (lane : Lane) (b : Byte) : OwnLaneOnly lane s (s.ackNotice lane b) := by
  rw [State.ackNotice_eq]
  exact (updLane fun _ => rfl).answer ..

theorem setMask (s : State) (lane : Lane) (mask : Byte) : OwnLaneOnly lane s (s.setMask lane mask) :=
  OwnLaneOnly.answer (updLane fun _ => rfl) ..

/-- Only a read from the PLANT lane marks a record READ (R145). -/
theorem readSummary {s : State} {lane : Lane} (hrole : (s.lanes.get lane).role ≠ .plant) (slot : Byte)
    (page : Option Byte) : OwnLaneOnly lane s (s.readSummary lane slot page) := by
  have hunmarked (i : Fin 8) : s.markRead lane i = s := if_neg fun h => hrole h.1
  unfold State.readSummary
  split
  · split
    · exact (refl ..).answer ..
    · rw [hunmarked]
      exact (refl ..).answer ..
  · split <;> exact (refl ..).answer ..

end OwnLaneOnly

/-! ### Every request is judged in one way (R161 to R163) -/

/-- A request is its kind, its payload and its block; the block of a request that MONITOR may send keeps to its lane
(R166; Table 4). -/
theorem exec_request {i : Instr} {lane : Lane} {p : RequestKind × List Byte} (hl : requestLane i = some lane)
    (hp : encodePayload i = some p) :
    ∃ body : State → State, (∀ s, exec i s = .next (s.request lane p.1 p.2 body)) ∧
      (p.1.permitted .monitor = true → ∀ u, (u.lanes.get lane).role = .monitor → OwnLaneOnly lane u (body u)) := by
  cases i with
  | selectionStart | badFrame | pendingSelection | powerOn | resetPin | resetPinRelease | initialisationEnd
  | timeCountAdvance | rampTick | silenceTimerExpiry | stopTimerExpiry | postTripTimerExpiry | roundStart
  | replyWindowClose | computationCompletion | levelComputationCompletion | fetchCompletion => cases hl
  | sample | ackTrip | trip | arm | disarm | start | inch | stop | clearTrip | setLimits | setGains | setShare
  | setWatch | setChannel | setChain | discover | release | setTime | clearCapture | clearCauses | reset =>
    cases hl
    cases hp
    exact ⟨_, fun _ => rfl, fun h => Bool.noConfusion h⟩
  | nop | readStatus | readIdent | readLimits | readChannel =>
    cases hl
    cases hp
    exact ⟨_, fun _ => rfl, fun _ u _ => (OwnLaneOnly.refl u lane).answer ..⟩
  | readNode =>
    cases hl
    cases hp
    exact ⟨_, fun _ => rfl, fun _ u _ => ((OwnLaneOnly.refl u lane).answer ..).trans ⟨rfl, fun _ _ => rfl, rfl⟩⟩
  | readTripSummary lane slot page =>
    cases hl
    cases hp
    exact ⟨_, fun _ => rfl, fun _ u hu => .readSummary (by rw [hu]; decide) slot page⟩
  | setCursor lane slot pinion index direction =>
    cases hl
    cases hp
    exact ⟨_, fun _ => rfl, fun _ u _ => .setCursor u lane slot pinion index direction⟩
  | readNext lane =>
    cases hl
    cases hp
    exact ⟨_, fun _ => rfl, fun _ u _ => .readNext u lane⟩
  | ackNotice lane b =>
    cases hl
    cases hp
    exact ⟨_, fun _ => rfl, fun _ u _ => .ackNotice u lane b⟩
  | setMask lane mask =>
    cases hl
    cases hp
    exact ⟨_, fun _ => rfl, fun _ u _ => .setMask u lane mask⟩

end Sys2Proof.Machine
end

section
/-! PROOFS. The start and the ends of selections: the frame that is fixed, bytes that fail a check, selections that take
nothing. -/

namespace Sys2Proof.Machine

/-! ### SELECTION_START (R160, R162, R168, R176) -/

/-- Settles O4: the start of a selection is one write to its lane. -/
theorem selectionStartFixesFrame : Obligations.SelectionStartFixesFrame := by
  intro s lane
  refine ⟨s.startSelection lane, rfl, rfl, fun j hj => ?others, _, LaneState.topNotice_isTop _, s.replyOut lane,
    fun h => if_pos h, fun h => if_neg (by rw [h]; decide), ?own⟩
  case others => rw [State.startSelection, State.updLane_get, if_neg hj]
  case own =>
    rw [State.startSelection, State.updLane_get, if_pos rfl]
    rfl

/-! ### Ends that take nothing (R161, R162, R164, R176) -/

theorem Selection.notTaken_ne {x : Selection} (h : x = .pendingReply ∨ x = .dead) : x ≠ .none ∧ x ≠ .holder := by
  rcases h with rfl | rfl <;> decide

section
variable {s : State} {lane : Lane} {bytes : List Byte} {status : Status}

/-- Bytes that pass every check spell no BAD_FRAME (log entry 13). -/
theorem State.endBadFrame_of_ok {p : RequestKind × List Byte} (h : checkFrame bytes = .ok p) :
    s.endBadFrame lane bytes = s := by
  unfold State.endBadFrame
  rw [h]

/-- The end of a selection answered from the holder: the reply BAD_FRAME where a byte was shifted in (R160, R161). -/
theorem State.endBadFrame_of_holder (hsel : (s.lanes.get lane).selection = .holder)
    (h : checkFrame bytes = .error status) :
    s.endBadFrame lane bytes =
      if bytes = [] then s.selectionEnded lane bytes
      else (s.selectionEnded lane bytes).answerBadFrame lane status := by
  unfold State.endBadFrame
  rw [h, s.openSelection_of_ne lane (by rw [hsel]; decide)]
  simp only [hsel, true_and, State.closeSelection_eq, ne_eq, ite_not]

/-- A selection that takes nothing has no BAD_FRAME reply either (R162, R164). -/
theorem State.endBadFrame_of_notTaken
    (hsel : (s.lanes.get lane).selection = .pendingReply ∨ (s.lanes.get lane).selection = .dead)
    (h : checkFrame bytes = .error status) : s.endBadFrame lane bytes = s.selectionEnded lane bytes := by
  obtain ⟨hnone, hholder⟩ := Selection.notTaken_ne hsel
  unfold State.endBadFrame
  rw [h, s.openSelection_of_ne lane hnone]
  exact if_neg fun hholder' => hholder hholder'.1

/-- No byte at all, or bytes that fail a check: both end as BAD_FRAME. -/
theorem checkFrame_error_of_fails (h : bytes = [] ∨ ∃ status, FrameFails bytes status) :
    ∃ status, checkFrame bytes = .error status := by
  rcases h with rfl | ⟨status, h⟩
  · exact ⟨_, rfl⟩
  · exact ⟨status, h.checkFrame_eq⟩

end

/-- Settles O5: the checks decide; the reply is one more write to the lane whose selection has ended. -/
theorem badFrameReply : Obligations.BadFrameReply := by
  refine fun s lane bytes hsel => ⟨fun status hfails => ?fails, ?empty, fun i frame after hframe hbytes => ?passes⟩
  case fails =>
    have hne : bytes ≠ [] := by cases hfails <;> nofun
    have hend := State.endBadFrame_of_holder hsel hfails.checkFrame_eq
    rw [if_neg hne, ← State.closeSelection_eq, State.answerBadFrame, State.closeSelection,
      State.updLane_updLane] at hend
    exact congrArg Host.Outcome.next hend
  case empty =>
    rintro rfl
    exact congrArg Host.Outcome.next (State.endBadFrame_of_holder hsel rfl)
  case passes =>
    obtain ⟨p, hp, rfl⟩ := Option.map_eq_some_iff.mp hframe
    subst hbytes
    exact congrArg Host.Outcome.next
      (State.endBadFrame_of_ok (checkFrame_requestFrame (encodePayload_length hp) after))

/-- Settles O6: every end of such a selection closes it and does no more. -/
theorem pendingAndDeadSelectionsTakeNothing : Obligations.PendingAndDeadSelectionsTakeNothing := by
  refine fun s lane => ⟨fun hsel => ⟨fun bytes => ?pending, fun bytes hfails => ?badFrame, fun i p hl hp => ?request⟩,
    fun hsel bytes => ?holder⟩
  case pending =>
    obtain ⟨hnone, hholder⟩ := Selection.notTaken_ne hsel
    have hend := s.endPending_spec lane bytes hnone
    rw [if_neg hholder] at hend
    exact congrArg Host.Outcome.next hend
  case badFrame =>
    obtain ⟨status, herror⟩ := checkFrame_error_of_fails hfails
    exact congrArg Host.Outcome.next (State.endBadFrame_of_notTaken hsel herror)
  case request =>
    obtain ⟨body, hexec, -⟩ := exec_request hl hp
    rw [hexec, State.request_notTaken s lane p.1 p.2 body hsel]
    rfl
  case holder =>
    have hend := s.endPending_spec lane bytes (by rw [hsel]; decide)
    rw [if_pos hsel] at hend
    exact congrArg Host.Outcome.next hend

/-! ### An end that starts its selection (log entry 5) -/

section
variable {s : State} {lane : Lane}

theorem State.openSelection_of_none (h : (s.lanes.get lane).selection = .none) :
    s.openSelection lane = s.startSelection lane := if_pos h

theorem State.startSelection_ne_none : ((s.startSelection lane).lanes.get lane).selection ≠ .none := by
  rw [State.startSelection_selection, if_pos rfl, State.selectionKind]
  split_ifs <;> decide

/-- A selection that has started needs no other start. -/
theorem State.openSelection_startSelection :
    (s.startSelection lane).openSelection lane = s.startSelection lane :=
  State.openSelection_of_ne _ lane State.startSelection_ne_none

/-- PENDING_SELECTION as a whole selection; one that would be answered from the holder is no event (log entry 4). -/
theorem State.endPending_of_none (h : (s.lanes.get lane).selection = .none) (bytes : List Byte) :
    s.endPending lane bytes =
      if ((s.startSelection lane).lanes.get lane).selection = .holder then s
      else (s.startSelection lane).selectionEnded lane bytes := by
  unfold State.endPending
  rw [State.openSelection_of_none h]
  cases hkind : ((s.startSelection lane).lanes.get lane).selection with
  | none => exact absurd hkind State.startSelection_ne_none
  | holder | pendingReply | dead => simp [hkind, State.closeSelection_eq]

end

/-- Settles O7: each end of a selection opens it first, and a selection that is open already stays. -/
theorem selectionEndStartsItsSelection : Obligations.SelectionEndStartsItsSelection := by
  intro s u lane hnone hu
  cases hu
  have hopen : s.openSelection lane = (s.startSelection lane).openSelection lane := by
    rw [State.openSelection_of_none hnone, State.openSelection_startSelection]
  refine ⟨fun i hl => ?request, fun bytes hfails => ?badFrame, fun hsel bytes => ?pending, fun hsel bytes => ?holder⟩
  case request =>
    obtain ⟨p, hp⟩ := exists_encodePayload hl
    obtain ⟨body, hexec, -⟩ := exec_request hl hp
    rw [hexec, hexec, State.request_opens s lane p.1 p.2 body hnone]
  case badFrame =>
    obtain ⟨status, herror⟩ := checkFrame_error_of_fails hfails
    refine congrArg Host.Outcome.next ?_
    unfold State.endBadFrame
    rw [herror, hopen]
  case pending =>
    have hstarted := (s.startSelection lane).endPending_spec lane bytes State.startSelection_ne_none
    have hwhole := State.endPending_of_none hnone bytes
    rw [if_neg hsel] at hstarted hwhole
    exact congrArg Host.Outcome.next (hwhole.trans hstarted.symm)
  case holder => exact congrArg Host.Outcome.next ((State.endPending_of_none hnone bytes).trans (if_pos hsel))

end Sys2Proof.Machine
end

section
/-! PROOFS. Requests judged before or without a block that changes anything: NOT_PERMITTED and the refusal capture, the
requests of a MONITOR lane, READ STATUS and READ IDENT. -/

namespace Sys2Proof.Machine

/-! ### NOT_PERMITTED (R163, R165; Table 4) -/

section
variable {s : State} {lane : Lane} {kind : RequestKind}

/-- An empty capture takes the refusal (R165). -/
theorem State.captureRefusal_of_none (h : s.capture = none) :
    s.captureRefusal lane kind =
      { s with
        lanes := (s.captureRefusal lane kind).lanes
        capture := some ⟨lane, kind.code, s.tbu.time⟩ } := by
  unfold State.captureRefusal
  rw [h]
  rfl

/-- A full capture stays (R165). -/
theorem State.captureRefusal_of_some (h : s.capture ≠ none) : s.captureRefusal lane kind = s := by
  obtain ⟨c, hc⟩ := Option.ne_none_iff_exists'.mp h
  unfold State.captureRefusal
  rw [hc]

end

/-- Settles O9: no block is reached, so the capture and its notice are all that stands beside the reply. -/
theorem notPermittedRefusal : Obligations.NotPermittedRefusal := by
  intro s i lane p hl hp hphase hsel hforbidden
  obtain ⟨body, hexec, -⟩ := exec_request hl hp
  have hworking : ¬(s.tbu.phase = .initialising ∧ p.1.servedInInit = false) := by simp [hphase]
  rw [hexec, State.request_notPermitted s lane p.1 p.2 body hsel hworking hforbidden]
  refine ⟨_, rfl, fun h => ?empty, fun h => ?full, ?answered⟩
  case empty =>
    rw [State.captureRefusal_of_none (by exact h)]
    rfl
  case full =>
    rw [State.captureRefusal_of_some (by exact h)]
    rfl
  case answered =>
    have hraised := answered_of_onlyNotices (s := s) (lane := lane) (kind := p.1) (payload := p.2)
      (raised := fun l => if s.capture = none ∧ l.role = .plant then 0x40 else 0)
      (fun j => State.captureRefusal_get _ lane p.1 j) (fun j => by rw [State.closeSelection_role]) .notPermitted []
    rwa [State.captureRefusal_rc] at hraised

/-! ### MONITOR lanes (R166) -/

section
variable {s : State} {lane : Lane} {kind : RequestKind} {payload : List Byte} {body : State → State}

/-- The ways of a request on a lane that is in a selection (R161 to R163). -/
theorem State.request_ways (h : (s.lanes.get lane).selection ≠ .none) {P : State → Prop}
    (hended : P (s.closeSelection lane (requestFrame kind payload)))
    (hinitialising : P ((s.closeSelection lane (requestFrame kind payload)).answer lane kind .initializing []))
    (hforbidden : kind.permitted (s.lanes.get lane).role = false →
      P (((s.closeSelection lane (requestFrame kind payload)).captureRefusal lane kind).answer lane kind
        .notPermitted []))
    (htaken : kind.permitted (s.lanes.get lane).role = true →
      P (body (s.closeSelection lane (requestFrame kind payload)))) :
    P (s.request lane kind payload body) := by
  unfold State.request State.judge
  rw [s.openSelection_of_ne lane h]
  simp only [State.closeSelection_role]
  split_ifs with _ _ hpermitted
  · exact hinitialising
  · exact hforbidden hpermitted
  · exact htaken (Bool.eq_true_of_not_eq_false hpermitted)
  · exact hended

/-- What R166 allows a request of this kind from a MONITOR lane. -/
structure Isolated (s t : State) (lane : Lane) (kind : RequestKind) : Prop where
  blocks : t = { s with lanes := t.lanes, capture := t.capture, openReads := t.openReads }
  capture : t.capture = s.capture ∨ s.capture = none ∧ t.capture = some ⟨lane, kind.code, s.tbu.time⟩
  others : ∀ j, j ≠ lane → t.lanes.get j =
    { s.lanes.get j with
      notices := (s.lanes.get j).notices |||
        (if t.capture ≠ s.capture ∧ (s.lanes.get j).role = .plant then 0x40 else 0) }
  own : t.lanes.get lane =
    { s.lanes.get lane with
      selection := .none
      receiver := (t.lanes.get lane).receiver
      holder := (t.lanes.get lane).holder
      notices := (t.lanes.get lane).notices
      mask := (t.lanes.get lane).mask
      cursor := (t.lanes.get lane).cursor }

/-- The lane itself, after the end of its selection and a write that keeps to it. -/
theorem OwnLaneOnly.own_of_ended {u t : State} {l : LaneState} {bytes : List Byte} {notices : Byte}
    (h : OwnLaneOnly lane u t)
    (hu : u.lanes.get lane = { l with selection := .none, receiver := bytes, notices := notices }) :
    t.lanes.get lane =
      { l with
        selection := .none
        receiver := (t.lanes.get lane).receiver
        holder := (t.lanes.get lane).holder
        notices := (t.lanes.get lane).notices
        mask := (t.lanes.get lane).mask
        cursor := (t.lanes.get lane).cursor } := by
  have hown := h.own
  rw [hu] at hown
  rw [congrArg LaneState.receiver hown]
  exact hown

/-- A request that only its own lane shows. -/
theorem OwnLaneOnly.isolated {bytes : List Byte} {t : State} (h : OwnLaneOnly lane (s.closeSelection lane bytes) t) :
    Isolated s t lane kind := by
  have hcapture : t.capture = s.capture := by rw [h.blocks]; rfl
  refine ⟨by rw [hcapture]; exact h.blocks, .inl hcapture, fun j hj => ?others,
    h.own_of_ended (by rw [State.closeSelection_get, if_pos rfl])⟩
  case others =>
    rw [h.others j hj, State.closeSelection_get, if_neg hj, if_neg fun hne => hne.1 hcapture, or_zero_byte]

/-- A refusal, offered to the capture (R165). -/
theorem OwnLaneOnly.isolated_refusal {bytes : List Byte} {t : State}
    (h : OwnLaneOnly lane ((s.closeSelection lane bytes).captureRefusal lane kind) t) : Isolated s t lane kind := by
  by_cases hempty : s.capture = none
  case neg =>
    rw [State.captureRefusal_of_some (by exact hempty)] at h
    exact h.isolated
  case pos =>
    have hblocks := h.blocks
    rw [State.captureRefusal_of_none (by exact hempty)] at hblocks
    have hcapture : t.capture = some ⟨lane, kind.code, s.tbu.time⟩ := by rw [hblocks]; rfl
    refine ⟨by rw [hcapture]; exact hblocks, .inr ⟨hempty, hcapture⟩, fun j hj => ?others,
      h.own_of_ended (by rw [State.captureRefusal_get, State.closeSelection_get, if_pos rfl])⟩
    case others =>
      rw [h.others j hj, State.captureRefusal_get, State.closeSelection_get, if_neg hj]
      simp only [State.closeSelection_capture, hempty, hcapture, ne_eq, reduceCtorEq, not_false_eq_true, true_and]

end

/-- Settles O13: every way of the request keeps to the lane, but the refusal that the capture is offered. -/
theorem monitorIsolation : Obligations.MonitorIsolation := by
  intro s t i lane hl hrole hsel ht
  obtain ⟨p, hp⟩ := exists_encodePayload hl
  obtain ⟨body, hexec, hbody⟩ := exec_request hl hp
  rw [hexec] at ht
  cases ht
  have hisolated : Isolated s (s.request lane p.1 p.2 body) lane p.1 := by
    refine State.request_ways (P := fun t => Isolated s t lane p.1) hsel ?ended ?initialising (fun _ => ?forbidden)
      fun hpermitted => ?taken
    case ended => exact (OwnLaneOnly.refl ..).isolated
    case initialising => exact ((OwnLaneOnly.refl ..).answer ..).isolated
    case forbidden => exact ((OwnLaneOnly.refl ..).answer ..).isolated_refusal
    case taken =>
      rw [hrole] at hpermitted
      exact (hbody hpermitted _ (by rw [State.closeSelection_role, hrole])).isolated
  obtain ⟨hblocks, hcapture, hothers, hown⟩ := hisolated
  exact ⟨hblocks, hcapture.imp_right fun ⟨hempty, hrefusal⟩ => ⟨hempty, p, hp, hrefusal⟩, hothers, hown⟩

/-! ### READ STATUS and READ IDENT (R170, R171) -/

theorem latestFlag_eq (r : Option LatestSample) (f : LatestSample → Bool) : latestFlag r f = (r.map f).getD false := by
  cases r <;> rfl

theorem RunControl.byte_hasBits (r : RunControl) : HasBits r.byte
    [r.silent.a, r.silent.b, r.ack.a, r.ack.b, (r.latest.a.map (·.ready)).getD false,
      (r.latest.b.map (·.ready)).getD false, (r.latest.a.map (·.fault)).getD false,
      (r.latest.b.map (·.fault)).getD false] := by
  simp only [RunControl.byte, latestFlag_eq]
  exact packBits_hasBits _

theorem State.partByte_hasBits (s : State) : HasBits s.partByte
    [decide (s.tbu.phase = .initialising), s.capture.isSome, s.scc.discovery.isSome,
      decide (∃ i, (s.trc.slots.get i).state = .filling)] := by
  have hfilling : s.trc.anyFilling = decide (∃ i, (s.trc.slots.get i).state = .filling) :=
    Bool.eq_iff_iff.mpr (by rw [Recorder.anyFilling_iff, decide_eq_true_iff])
  rw [← hfilling]
  exact packBits_hasBits _

/-- A reply whose payload is read in another way. -/
theorem Answered.of_payload_eq {s t : State} {lane : Lane} {kind : RequestKind} {payload page page' : List Byte}
    {code : Byte} {status : Status} {drive : DriveState} {raised : LaneState → Byte}
    (h : Answered s t lane kind payload ⟨code, status, drive, page⟩ raised) (hpage : page = page') :
    Answered s t lane kind payload ⟨code, status, drive, page'⟩ raised := hpage ▸ h

/-- Settles O14: the initialisation serves both requests, and each page is read field by field. -/
theorem readStatusAndIdentReplies : Obligations.ReadStatusAndIdentReplies := by
  refine ⟨fun s lane h => ⟨_, _, _, s.rc.byte_hasBits, s.partByte_hasBits, packBits_hasBits _, ?status⟩,
    fun s lane h => ?ident⟩
  case status =>
    refine ⟨_, congrArg Host.Outcome.next (State.request_takesAlways s lane .readStatus [] _ h rfl fun _ => rfl), rfl,
      (answered_of_quiet rfl .ok _).of_payload_eq ?_⟩
    show s.statusPayload = _
    rw [State.statusPayload, imbalanceLevel_eq]
    cases s.capture <;> rfl
  case ident =>
    refine ⟨_, congrArg Host.Outcome.next (State.request_takesAlways s lane .readIdent [] _ h rfl fun _ => rfl), rfl,
      (answered_of_quiet rfl .ok _).of_payload_eq ?_⟩
    rw [State.identPayload, State.closeSelection_role, State.closeSelection_get, if_pos rfl]
    rfl

end Sys2Proof.Machine
end

section
/-! PROOFS. Requests that leave every block alone or change one item of it: the refusals of the initialisation; SET TIME,
CLEAR CAPTURE and CLEAR CAUSES. -/

namespace Sys2Proof.Machine

/-! ### The initialisation (R163, R177) -/

theorem RequestKind.servedInInit_eq_false {kind : RequestKind} (hstatus : kind ≠ .readStatus)
    (hident : kind ≠ .readIdent) : kind.servedInInit = false := by
  unfold RequestKind.servedInInit
  split
  · exact absurd rfl hstatus
  · exact absurd rfl hident
  · rfl

/-- Settles O8: the role is not asked for, and no block is reached, so the reply is all there is. -/
theorem initialisationRefuses : Obligations.InitialisationRefuses := by
  intro s i lane p hl hp hphase hsel hstatus hident
  obtain ⟨body, hexec, -⟩ := exec_request hl hp
  rw [hexec, State.request_initialising s lane p.1 p.2 body hsel hphase
    (RequestKind.servedInInit_eq_false hstatus hident)]
  exact ⟨_, rfl, rfl, answered_of_quiet rfl .initializing []⟩

/-! ### SET TIME, CLEAR CAPTURE and CLEAR CAUSES (R165, R173, R174) -/

/-- Settles O36: each block writes its item and answers, and no block looks at the drive state. -/
theorem timeCaptureAndCauses : Obligations.TimeCaptureAndCauses := by
  refine fun s lane time => ⟨fun h => ?time, fun h => ?capture, fun h => ?causes⟩
  case time => exact ⟨_, exec_of_takes rfl h, rfl, answered_of_quiet rfl .ok (be32 time)⟩
  case capture => exact ⟨_, exec_of_takes rfl h, rfl, answered_of_quiet rfl .ok []⟩
  case causes => exact ⟨_, exec_of_takes rfl h, rfl, answered_of_quiet rfl .ok []⟩

end Sys2Proof.Machine
end

section
/-! PROOFS. The resets, the release of the reset pin and the initialisation: the blocks, the lanes and their roles. -/

namespace Sys2Proof.Machine

/-! ### Roles from the straps (R158) -/

theorem strapRole_eq_iff (b : BitVec 2) (r : Role) : strapRole b = r ↔ b.toNat = r.code.toNat := by
  revert b
  cases r <;> decide

theorem strapRole_eq_monitor_iff (b : BitVec 2) : strapRole b = .monitor ↔ b = 3 := by
  revert b
  decide

section
variable {straps : Straps} {j : Lane} {r : Role}

/-- A lane holds one of the three single roles if it is strapped to it and no lower lane has its strap code. -/
theorem settleRole_eq_iff (h : r ≠ .monitor) :
    (settleRole straps j).1 = r ↔ strapRole (straps.get j) = r ∧ takenBelow straps j = false := by
  unfold settleRole
  split_ifs with hmonitor htaken
  · exact iff_of_false h.symm fun hrole => h (hrole.1.symm.trans hmonitor)
  · exact iff_of_false h.symm fun hrole => Bool.false_ne_true (hrole.2.symm.trans htaken)
  · exact (and_iff_left (Bool.eq_false_iff.mpr htaken)).symm

theorem settleRole_conflict_iff :
    (settleRole straps j).2 = true ↔ straps.get j ≠ 3 ∧ takenBelow straps j = true := by
  rw [Ne, ← strapRole_eq_monitor_iff]
  unfold settleRole
  split_ifs with hmonitor htaken
  · exact iff_of_false id fun hconflict => hconflict.1 hmonitor
  · exact iff_of_true rfl ⟨hmonitor, htaken⟩
  · exact iff_of_false id fun hconflict => htaken hconflict.2

/-- Each single role belongs to the lowest lane that is strapped to it. -/
theorem settleRole_eq_iff_lowest (h : r ≠ .monitor) : (settleRole straps j).1 = r ↔
    (straps.get j).toNat = r.code.toNat ∧ ∀ i, i < j → (straps.get i).toNat ≠ r.code.toNat := by
  rw [settleRole_eq_iff h, strapRole_eq_iff, Bool.eq_false_iff, Ne, takenBelow_iff]
  refine and_congr_right fun hcode => ?_
  rw [← hcode]
  simp only [not_exists, not_and, ne_eq, BitVec.toNat_inj]

theorem settleRole_conflict_iff_lower :
    (settleRole straps j).2 = true ↔ straps.get j ≠ 3 ∧ ∃ i, i < j ∧ straps.get i = straps.get j := by
  rw [settleRole_conflict_iff, takenBelow_iff]

end

/-! ### One lane, one slot (R149, R164) -/

theorem LaneState.afterReset_eq_restarted (l : LaneState) (role : Role) (conflict : Bool) :
    l.afterReset role conflict = l.restarted (role, conflict) := rfl

theorem settledLanes_get (lanes : Four LaneState) (straps : Straps) (j : Lane) :
    (settledLanes lanes straps).get j = (lanes.get j).restarted (settleRole straps j) := by
  rw [settledLanes, Four.get_map, LaneState.afterReset_eq_restarted]

theorem heldLanes_get (lanes : Four LaneState) (j : Lane) :
    (heldLanes lanes).get j = (lanes.get j).restarted ((lanes.get j).role, (lanes.get j).conflict) := by
  rw [heldLanes, Four.get_map, LaneState.afterReset_eq_restarted]

/-! ### The blocks (R22, R36, R55, R78, R94, R115, R119, R132, R148, R149, R165, R172, R174) -/

section
variable (s : State) (lanes : Four LaneState) (causes : ResetCauses) (phase : Phase)

/-- What all resets have in common; only the trip table and the channel table differ from one to the other. -/
theorem State.blocksReset_spec (configs : Eight ChannelConfig) {trc : Recorder}
    (htrc : trc.rings = .both [] ∧ trc.nextSeq = .both 0 ∧ trc.prevCounter = .both none ∧ trc.current = none ∧
      trc.postTimer = false) :
    BlocksReset s (s.blocksReset lanes configs trc causes phase) causes phase :=
  ⟨rfl, rfl, rfl, rfl, rfl, rfl, rfl, rfl, rfl, rfl, ⟨rfl, rfl, rfl, rfl⟩, htrc⟩

theorem State.warmReset_channel (c : Channel) : (s.warmReset lanes causes phase).vlu.channels.get c =
    { State.reset.vlu.channels.get c with config := (s.vlu.channels.get c).config } := by
  simp only [State.warmReset, State.blocksReset, Vibration.reset, Vibration.configs, State.reset, Eight.get_map]
  rfl

theorem State.warmReset_slot (i : Fin 8) :
    (s.warmReset lanes causes phase).trc.slots.get i = (s.trc.slots.get i).afterReset :=
  Eight.get_map ..

/-- Every reset but power-on. -/
theorem State.warmReset_spec : WarmReset s (s.warmReset lanes causes phase) causes phase :=
  ⟨s.blocksReset_spec lanes causes phase _ ⟨rfl, rfl, rfl, rfl, rfl⟩,
    s.warmReset_channel lanes causes phase, s.warmReset_slot lanes causes phase, rfl, rfl, rfl⟩

/-- Power-on. -/
theorem State.blocksReset_cold :
    ColdReset s (s.blocksReset lanes (.const .default) .powerOn ⟨true, false, false⟩ phase) phase :=
  ⟨s.blocksReset_spec lanes _ phase _ ⟨rfl, rfl, rfl, rfl, rfl⟩, rfl, rfl⟩

end

/-! ### RESET, RESET_PIN and POWER_ON, branch by branch (R174 to R176) -/

section
variable {s : State}

theorem State.plantReset_at_rest (h : s.rc.drive = .halt ∨ s.rc.drive = .tripped) (lane : Lane) (straps : Straps) :
    s.plantReset lane straps =
      s.warmReset (settledLanes s.lanes straps) { s.tbu.causes with plantReset := true } .initialising :=
  if_pos h

theorem State.pinReset_of_held (h : s.tbu.phase = .held) : s.pinReset = s := by
  unfold State.pinReset
  rw [h]

theorem State.pinReset_of_ne_held (h : s.tbu.phase ≠ .held) :
    s.pinReset = s.warmReset (heldLanes s.lanes) { s.tbu.causes with resetPin := true } .held := by
  unfold State.pinReset
  split
  · exact absurd ‹_› h
  all_goals rfl

/-- The lanes after a RESET that ended the selection of its own lane: a reset keeps nothing of the request's frame. -/
theorem State.closeSelection_settled (lane : Lane) (bytes : List Byte) (straps : Straps) (j : Lane) :
    (settledLanes (s.closeSelection lane bytes).lanes straps).get j =
      ({ s.lanes.get j with selection := if j = lane then .none else (s.lanes.get j).selection } :
        LaneState).restarted (settleRole straps j) := by
  rw [settledLanes_get, State.closeSelection_get]
  split <;> rfl

end

/-- Settles O37: each reset is one write of all the blocks; the lanes take it one by one. -/
theorem resetsAndTheirCauses : Obligations.ResetsAndTheirCauses := by
  refine fun s lane straps pinLow => ⟨fun h hdrive => ?plant, fun hphase => ?pin,
    fun hphase => congrArg Host.Outcome.next (State.pinReset_of_held hphase), _, rfl, ?power, ?powerHeld⟩
  case plant =>
    exact ⟨_, exec_eq_of_takes rfl h (State.plantReset_at_rest (by exact hdrive) lane straps),
      State.warmReset_spec (s.closeSelection ..) .., State.closeSelection_settled lane _ straps⟩
  case pin =>
    exact ⟨_, congrArg Host.Outcome.next (State.pinReset_of_ne_held hphase), s.warmReset_spec ..,
      heldLanes_get s.lanes⟩
  case power =>
    rintro rfl
    exact ⟨s.blocksReset_cold .., settledLanes_get s.lanes straps⟩
  case powerHeld =>
    rintro rfl
    exact ⟨s.blocksReset_cold .., heldLanes_get s.lanes⟩

/-! ### The release of the reset pin and the initialisation's end (R176) -/

section
variable {s : State}

theorem State.pinRelease_of_held (h : s.tbu.phase = .held) (straps : Straps) :
    s.pinRelease straps =
      { s with lanes := settledLanes s.lanes straps, tbu := { s.tbu with phase := .initialising } } := by
  unfold State.pinRelease
  rw [h]
  rfl

theorem State.pinRelease_of_ne_held (h : s.tbu.phase ≠ .held) (straps : Straps) : s.pinRelease straps = s := by
  unfold State.pinRelease
  split
  · exact absurd ‹_› h
  all_goals rfl

theorem State.endInitialisation_of_initialising (h : s.tbu.phase = .initialising) :
    s.endInitialisation = (s.updTbu fun t => { t with phase := .working }).raiseAll .state := by
  unfold State.endInitialisation
  rw [h]

theorem State.endInitialisation_of_ne (h : s.tbu.phase ≠ .initialising) : s.endInitialisation = s := by
  unfold State.endInitialisation
  split
  · exact absurd ‹_› h
  all_goals rfl

theorem State.raiseAll_state_onlyNotices (s : State) : OnlyNotices s (s.raiseAll .state) stateBit :=
  fun j => s.raiseAll_get .state j

end

/-- Settles O38: the phase decides about both events; a role belongs to the lowest lane strapped to it. -/
theorem rolesAndInitialisation : Obligations.RolesAndInitialisation := by
  refine ⟨fun s straps => ⟨fun h => ?release, fun h => ?noRelease, fun h => ?ends, fun h => ?noEnd⟩,
    fun straps j r => ⟨settleRole_eq_iff_lowest, settleRole_conflict_iff_lower⟩⟩
  case release =>
    exact ⟨_, congrArg Host.Outcome.next (State.pinRelease_of_held h straps), rfl, settledLanes_get s.lanes straps⟩
  case noRelease => exact congrArg Host.Outcome.next (State.pinRelease_of_ne_held h straps)
  case ends =>
    exact ⟨_, congrArg Host.Outcome.next (State.endInitialisation_of_initialising h), rfl,
      (s.updTbu fun t => { t with phase := .working }).raiseAll_state_onlyNotices⟩
  case noEnd => exact congrArg Host.Outcome.next (State.endInitialisation_of_ne h)

end Sys2Proof.Machine
end

section
/-! PROOFS. The end of a millisecond and the ramp tick. -/

namespace Sys2Proof.Machine

section
variable {s : State}

theorem State.timersRun_iff : s.timersRun = true ↔ s.tbu.phase ≠ .held := bne_iff_ne

theorem State.advanceTime_of_ne_held (h : s.tbu.phase ≠ .held) :
    s.advanceTime = { s with tbu := { s.tbu with time := s.tbu.time + 1 } } :=
  if_pos (State.timersRun_iff.mpr h)

theorem State.advanceTime_of_held (h : s.tbu.phase = .held) : s.advanceTime = s :=
  if_neg fun hrun => State.timersRun_iff.mp hrun h

theorem State.rampTick_of_ne_held (h : s.tbu.phase ≠ .held) :
    s.rampTick = ((s.rampPinion .a).rampPinion .b).updDwu DriveWatch.decayStep :=
  if_pos (State.timersRun_iff.mpr h)

theorem State.rampTick_of_held (h : s.tbu.phase = .held) : s.rampTick = s :=
  if_neg fun hrun => State.timersRun_iff.mp hrun h

end

/-! ### One pinion's ramp step (R45, R46, R51) -/

/-- The limit of pinion k after a ramp step (R45). -/
def ShareLimit.ramped (u : ShareLimit) (k : Pinion) : Nat := min (u.limit.get k + u.rampStep) (u.target.get k)

/-- A limit stored again over itself leaves a clamped reference as it is (R48). -/
theorem ShareLimit.setLimit_self {u : ShareLimit} (h : u.clamped) (k : Pinion) : u.setLimit k (u.limit.get k) = u := by
  obtain ⟨hiref, hlimited⟩ := h k
  simp only [ShareLimit.setLimit, ShareLimit.reclamp, Pair.set_get]
  rw [← hiref, ← hlimited, Pair.set_get, Pair.set_get]

/-- LIMIT on the lane of pinion k. -/
def limitBitOf (k : Pinion) (b : Bool) : LaneState → Byte := fun l =>
  if l.role = pinionRole k ∧ b = true then 0x08 else 0

theorem raisedBoth_limitBitOf (a b : Bool) : raisedBoth (limitBitOf .a a) (limitBitOf .b b) = limitBit a b := by
  funext l
  unfold raisedBoth limitBitOf limitBit
  cases l.role <;> simp [pinionRole]

section
variable {s : State} {k : Pinion}

/-- A limit below its target is raised and re-clamped, with LIMIT where it arrives. -/
theorem State.rampPinion_below (hc : s.slu.clamped) (h : s.slu.limit.get k < s.slu.target.get k) :
    s.rampPinion k =
      if s.slu.ramped k = s.slu.target.get k then
        (s.updSlu fun u => u.setLimit k (s.slu.ramped k)).raisePinion k .limit
      else s.updSlu fun u => u.setLimit k (s.slu.ramped k) := by
  have hstored : (if s.slu.ramped k = s.slu.limit.get k then s
      else s.updSlu fun u => u.setLimit k (s.slu.ramped k)) = s.updSlu fun u => u.setLimit k (s.slu.ramped k) :=
    ite_eq_right_iff.mpr fun hsame => by rw [hsame, State.updSlu, ShareLimit.setLimit_self hc]
  rw [← hstored]
  exact if_pos h

/-- The split and limit unit after a ramp step, whether the limit stood below its target or at it. -/
theorem State.rampPinion_slu (hc : s.slu.clamped) (hle : s.slu.limit.get k ≤ s.slu.target.get k) :
    (s.rampPinion k).slu = s.slu.setLimit k (s.slu.ramped k) := by
  rcases hle.lt_or_eq with hbelow | harrived
  · rw [State.rampPinion_below hc hbelow]
    split <;> rfl
  · have hstill : s.slu.ramped k = s.slu.limit.get k := by
      unfold ShareLimit.ramped
      omega
    rw [State.rampPinion_arrived harrived.ge, hstill, ShareLimit.setLimit_self hc]

/-- LIMIT where the step arrives at the target (R46, R51). -/
theorem State.rampPinion_onlyNotices (hc : s.slu.clamped) : OnlyNotices s (s.rampPinion k)
    (limitBitOf k (decide (s.slu.limit.get k < s.slu.target.get k ∧ s.slu.ramped k = s.slu.target.get k))) := by
  intro j
  by_cases hbelow : s.slu.limit.get k < s.slu.target.get k
  case neg => simp [State.rampPinion_arrived (Nat.le_of_not_lt hbelow), limitBitOf, hbelow]
  case pos =>
    have bit : (Notice.limit.bit : Byte) = 0x08 := by decide
    rw [State.rampPinion_below hc hbelow]
    by_cases harrives : s.slu.ramped k = s.slu.target.get k
    case neg => simp [limitBitOf, harrives]
    case pos =>
      by_cases hrole : (s.lanes.get j).role = pinionRole k <;>
        simp [State.raisePinion_get, LaneState.raise_eq, bit, limitBitOf, hbelow, harrives, hrole]

end

/-! ### The whole tick (R45, R84) -/

section
variable {s : State}

theorem LimitLaw.rampPinion (h : LimitLaw s) (k : Pinion) : LimitLaw (s.rampPinion k) :=
  (s.rampPinion_keepsLimits k).limit h

theorem LimitLaw.limit_le_target (h : LimitLaw s) (k : Pinion) : s.slu.limit.get k ≤ s.slu.target.get k := by
  obtain ⟨hle, htarget⟩ := h.target k
  rwa [htarget]

/-- Neither pinion's step looks at the other's limit. -/
theorem LimitLaw.rampBoth_slu (h : LimitLaw s) : ((s.rampPinion .a).rampPinion .b).slu =
    (s.slu.setLimit .a (s.slu.ramped .a)).setLimit .b (s.slu.ramped .b) := by
  have hfirst := State.rampPinion_slu h.clamped (h.limit_le_target .a)
  rw [State.rampPinion_slu (h.rampPinion .a).clamped ((h.rampPinion .a).limit_le_target .b), hfirst]
  rfl

theorem LimitLaw.rampBoth_onlyNotices (h : LimitLaw s) : OnlyNotices s ((s.rampPinion .a).rampPinion .b)
    (limitBit (decide (s.slu.limit.a < s.slu.target.a ∧ s.slu.ramped .a = s.slu.target.a))
      (decide (s.slu.limit.b < s.slu.target.b ∧ s.slu.ramped .b = s.slu.target.b))) := by
  have hsecond := State.rampPinion_onlyNotices (k := .b) (h.rampPinion .a).clamped
  rw [State.rampPinion_slu h.clamped (h.limit_le_target .a)] at hsecond
  rw [← raisedBoth_limitBitOf]
  exact (State.rampPinion_onlyNotices h.clamped).trans hsecond fun _ _ => rfl

/-- The ramp steps reach the lanes and the split and limit unit only. -/
theorem State.rampBoth_eq (s : State) : (s.rampPinion .a).rampPinion .b =
    { s with
      lanes := ((s.rampPinion .a).rampPinion .b).lanes
      slu := ((s.rampPinion .a).rampPinion .b).slu } := by
  apply State.ext_fields <;> simp

end

/-- Settles O39: a limit at its target takes no step, one below it takes one, and the law of the chain stands after
both. -/
theorem timeCountAndRampTick : Obligations.TimeCountAndRampTick := by
  refine fun s => ⟨fun hphase => ⟨congrArg Host.Outcome.next (State.advanceTime_of_ne_held hphase), fun hlaw =>
      ⟨_, congrArg Host.Outcome.next (State.rampTick_of_ne_held hphase), ?frame, fun k => ⟨?limit, ?chain⟩, ?notices⟩⟩,
    fun hphase => ⟨congrArg Host.Outcome.next (State.advanceTime_of_held hphase),
      congrArg Host.Outcome.next (State.rampTick_of_held hphase)⟩⟩
  case frame =>
    rw [s.rampBoth_eq, hlaw.rampBoth_slu]
    rfl
  case limit =>
    rw [State.updDwu_slu, hlaw.rampBoth_slu]
    cases k <;> rfl
  case chain =>
    rw [← State.rampTick_of_ne_held hphase]
    obtain ⟨-, hchain⟩ := s.rampTick_keepsLimits.limit hlaw
    exact hchain k
  case notices =>
    rw [State.updDwu_slu, hlaw.rampBoth_slu]
    exact hlaw.rampBoth_onlyNotices

end Sys2Proof.Machine
end

section
/-! PROOFS. The queue of waiting commands: a step takes its front, and no command touches it. -/

namespace Sys2Proof.Machine

section
variable (s : State)

/-! ### Reports and the leaving of regulation (R7, R9, R15, R17, R85) -/

theorem foldl_pending {α : Type} {f : State → α → State} (hf : ∀ u x, (f u x).pending = u.pending) (l : List α) :
    (l.foldl f s).pending = s.pending :=
  List.foldlRecOn (motive := fun u => u.pending = s.pending) l f rfl fun u hu x _ => (hf u x).trans hu

theorem replyAbandoned_pending (trip : Bool) (u : State) (e : Entry) :
    (State.replyAbandoned trip u e).pending = u.pending := rfl

@[simp] theorem State.enterTrip_pending (cause : Cause) (value limit : Nat) (trigger : Option Entry) :
    (s.enterTrip cause value limit trigger).pending = s.pending := by
  simp [State.enterTrip, foldl_pending _ State.abandonAtTrip_pending, foldl_pending _ (replyAbandoned_pending true)]

@[simp] theorem State.reportTrip_pending (cause : Cause) (value limit : Nat) (trigger : Option Entry) :
    (s.reportTrip cause value limit trigger).pending = s.pending := by
  unfold State.reportTrip
  split <;> simp

@[simp] theorem State.reportAll_pending (e : Entry) (rs : List (Cause × Nat × Nat)) :
    (s.reportAll e rs).pending = s.pending :=
  foldl_pending s (fun u _ => u.reportTrip_pending ..) rs

@[simp] theorem State.reportOverloads_pending (q : Nat) (causes : List Cause) :
    (s.reportOverloads q causes).pending = s.pending :=
  foldl_pending s (fun u _ => u.reportTrip_pending ..) causes

@[simp] theorem State.endStop_pending : s.endStop.pending = s.pending := by
  simp [State.endStop, foldl_pending _ State.abandonAtStop_pending, foldl_pending _ (replyAbandoned_pending false)]

/-! ### Arrivals (R7, R10, R26, R64, R77, R80) -/

@[simp] theorem State.checkImbalance_pending (e : Entry) : (s.checkImbalance e).pending = s.pending := by
  unfold State.checkImbalance
  dsimp only
  split
  · split <;> simp
  · rfl

@[simp] theorem State.zeroSpeedTest_pending : s.zeroSpeedTest.pending = s.pending := by
  unfold State.zeroSpeedTest
  split <;> simp

@[simp] theorem State.takeDemand_pending (k : Pinion) (demand : Option Word16) :
    (s.takeDemand k demand).pending = s.pending := by
  unfold State.takeDemand
  split
  · split <;> simp
  · rfl

@[simp] theorem State.answerAtRest_pending (lane : Lane) (e : Entry) (tripped : Bool) :
    (s.answerAtRest lane e tripped).pending = s.pending := by
  cases tripped <;> simp [State.answerAtRest]

@[simp] theorem State.regulate_pending (lane : Lane) (e : Entry) (tripped : Bool) :
    (s.regulate lane e tripped).pending = s.pending := by
  unfold State.regulate
  split <;> simp

/-- The checks of an arrival are reports but for the drive watch's sums. -/
@[simp] theorem State.sampleArrives_pending (lane : Lane) (k : Pinion) (iMeas n : Word16) (counter bridge : Byte)
    (demand : Option Word16) : (s.sampleArrives lane k iMeas n counter bridge demand).pending = s.pending := by
  rw [s.sampleArrives_eq _ _ _ _ _ _ _ _ (State.checkSample_eq ..)]
  simp [State.finishSample, State.arrive]

@[simp] theorem State.takeSample_pending (lane : Lane) (iMeas n : Word16) (counter bridge : Byte)
    (demand : Option Word16) : (s.takeSample lane iMeas n counter bridge demand).pending = s.pending := by
  unfold State.takeSample
  split <;> simp

/-! ### The requests of run control (R3 to R6, R19, R20) -/

@[simp] theorem State.ackTrip_pending (lane : Lane) : (s.ackTrip lane).pending = s.pending := by
  unfold State.ackTrip
  split
  · split <;> simp
  · simp

@[simp] theorem State.arm_pending (lane : Lane) : (s.arm lane).pending = s.pending := by
  unfold State.arm
  (repeat' split) <;> simp

@[simp] theorem State.disarm_pending (lane : Lane) : (s.disarm lane).pending = s.pending := by
  unfold State.disarm
  split <;> simp

@[simp] theorem State.start_pending (lane : Lane) : (s.start lane).pending = s.pending := by
  unfold State.start
  split <;> simp

@[simp] theorem State.inching_pending (lane : Lane) : (s.inching lane).pending = s.pending := by
  unfold State.inching
  split <;> simp

@[simp] theorem State.stop_pending (lane : Lane) : (s.stop lane).pending = s.pending := by
  unfold State.stop
  split <;> simp [State.startStopTimer]

@[simp] theorem State.clearTrip_pending (lane : Lane) : (s.clearTrip lane).pending = s.pending := by
  unfold State.clearTrip
  split <;> simp

/-! ### Settings and channels (R53, R59, R85, R108, R113, R117, R124 to R130) -/

@[simp] theorem State.setLimits_pending (lane : Lane) (plant ceilA ceilB derate inchCeiling rampStep : Word16) :
    (s.setLimits lane plant ceilA ceilB derate inchCeiling rampStep).pending = s.pending := by
  unfold State.setLimits
  split <;> simp

@[simp] theorem State.setGains_pending (lane : Lane) (kp ki : Word16) (feedforward : Byte) (uMin uMax : Word16) :
    (s.setGains lane kp ki feedforward uMin uMax).pending = s.pending := by
  unfold State.setGains
  split <;> simp

@[simp] theorem State.setWatch_pending (lane : Lane) (w : WatchSettings) :
    (s.setWatch lane w).pending = s.pending := by
  simp [State.setWatch_eq, State.underWatch]

@[simp] theorem State.channelMoved_pending : s.channelMoved.pending = s.pending := by simp [State.channelMoved]

@[simp] theorem State.noteMove_pending (c : Channel) (before : ChannelState) :
    (s.noteMove c before).pending = s.pending := by
  unfold State.noteMove
  split <;> simp

@[simp] theorem State.setChannel_pending (lane : Lane) (i : Channel) (g : ChannelConfig) :
    (s.setChannel lane i g).pending = s.pending := by
  unfold State.setChannel
  split <;> simp

@[simp] theorem State.forgetChannels_pending : s.forgetChannels.pending = s.pending := by
  unfold State.forgetChannels
  dsimp only
  split <;> simp

@[simp] theorem State.discover_pending (lane : Lane) (count : Byte) : (s.discover lane count).pending = s.pending := by
  unfold State.discover
  (repeat' split) <;> simp

theorem State.levelComputationCompletes_pending (channel : Channel) :
    (s.levelComputationCompletes channel).pending = s.pending := by
  unfold State.levelComputationCompletes State.levelCompletes
  dsimp only
  split
  · split <;> simp
  · rfl

theorem State.computationCompletes_pending : s.computationCompletes.pending = s.pending := by
  unfold State.computationCompletes
  split <;> simp

/-! ### The chain's events (R95, R97, R102 to R104, R110, R111) -/

theorem State.roundTimer_pending : s.roundTimer.pending = s.pending := by
  rw [State.roundTimer_eq]
  split <;> rfl

@[simp] theorem State.nodeLost_pending (c : Channel) : (s.nodeLost c).pending = s.pending := by
  unfold State.nodeLost
  dsimp only
  split <;> simp

@[simp] theorem State.handOver_pending (c : Channel) (x : Option Int) : (s.handOver c x).pending = s.pending := by
  unfold State.handOver
  split <;> rfl

@[simp] theorem State.closePolled_pending (c : Fin 8) (words : List ChainWord) :
    (s.closePolled c words).pending = s.pending := by
  unfold State.closePolled
  dsimp only
  split
  · split <;> simp
  · rfl

@[simp] theorem State.lockPosition_pending (d : Discovery) (c : Fin 8) (w : ChainWord) :
    (s.lockPosition d c w).pending = s.pending := by
  unfold State.lockPosition
  dsimp only
  split <;> rfl

@[simp] theorem State.missSearch_pending (d : Discovery) (c : Fin 8) (rounds : Nat) :
    (s.missSearch d c rounds).pending = s.pending := by
  unfold State.missSearch
  split <;> rfl

@[simp] theorem State.closeSearch_pending (c : Fin 8) (words : List ChainWord) :
    (s.closeSearch c words).pending = s.pending := by
  unfold State.closeSearch
  (repeat' split) <;> simp

theorem State.closeWindow_pending (c : Fin 8) (words : List ChainWord) :
    (s.closeWindow c words).pending = s.pending := by
  obtain heq | ⟨r, -, ⟨-, heq⟩ | ⟨-, -, heq⟩⟩ := s.closeWindow_cases c words <;> rw [heq]
  · exact State.closePolled_pending ..
  · exact State.closeSearch_pending ..

/-! ### Lanes, cursors and the trip table (R145, R146, R151 to R154, R161, R162, R167, R168) -/

/-- What reaches its own lane only does not reach the queue. -/
theorem OwnLaneOnly.pending {s t : State} {lane : Lane} (h : OwnLaneOnly lane s t) : t.pending = s.pending := by
  rw [h.blocks]

@[simp] theorem State.readSummary_pending (lane : Lane) (slot : Byte) (page : Option Byte) :
    (s.readSummary lane slot page).pending = s.pending := by
  unfold State.readSummary State.markRead
  dsimp only
  (repeat' split) <;> simp

@[simp] theorem State.release_pending (lane : Lane) (slot : Byte) : (s.release lane slot).pending = s.pending := by
  unfold State.release
  split <;> split <;> simp

theorem State.fetchCompletes_pending (lane : Lane) : (s.fetchCompletes lane).pending = s.pending := by
  unfold State.fetchCompletes
  split
  · split <;> rfl
  all_goals rfl

theorem State.endBadFrame_pending (lane : Lane) (bytes : List Byte) :
    (s.endBadFrame lane bytes).pending = s.pending := by
  unfold State.endBadFrame
  split
  · rfl
  · dsimp only
    split <;> simp [State.answerBadFrame]

theorem State.endPending_pending (lane : Lane) (bytes : List Byte) :
    (s.endPending lane bytes).pending = s.pending := by
  unfold State.endPending
  dsimp only
  split <;> simp

/-! ### Timers (R8, R12, R45, R84, R144, R172) -/

theorem State.advanceTime_pending : s.advanceTime.pending = s.pending := by
  unfold State.advanceTime
  split <;> rfl

theorem State.rampTick_pending : s.rampTick.pending = s.pending := by
  unfold State.rampTick
  split <;> simp

theorem State.silenceExpires_pending (k : Pinion) : (s.silenceExpires k).pending = s.pending := by
  unfold State.silenceExpires
  split
  · rfl
  · dsimp only
    split <;> simp

theorem State.stopExpires_pending : s.stopExpires.pending = s.pending := by
  unfold State.stopExpires
  split
  · rfl
  · dsimp only
    split <;> simp

theorem State.postTripExpires_pending : s.postTripExpires.pending = s.pending := by
  unfold State.postTripExpires
  split
  · split <;> simp
  · rfl

/-! ### Resets and the initialisation (R174 to R176): the queue is no part of the hardware that a reset reaches -/

@[simp] theorem State.plantReset_pending (lane : Lane) (straps : Straps) :
    (s.plantReset lane straps).pending = s.pending := by
  unfold State.plantReset
  split <;> rfl

theorem State.powerUp_pending (straps : Straps) (pinLow : Bool) : (s.powerUp straps pinLow).pending = s.pending := by
  cases pinLow <;> rfl

theorem State.pinReset_pending : s.pinReset.pending = s.pending := by
  unfold State.pinReset
  split <;> rfl

theorem State.pinRelease_pending (straps : Straps) : (s.pinRelease straps).pending = s.pending := by
  unfold State.pinRelease
  split <;> rfl

theorem State.endInitialisation_pending : s.endInitialisation.pending = s.pending := by
  unfold State.endInitialisation
  split <;> rfl

/-! ### Requests (R161 to R163, R165) -/

/-- The judging of a request leaves the queue to its block. -/
theorem State.request_pending {lane : Lane} {kind : RequestKind} {payload : List Byte} {body : State → State}
    (h : ∀ u, (body u).pending = u.pending) : (s.request lane kind payload body).pending = s.pending := by
  unfold State.request State.judge
  dsimp only
  (repeat' split) <;> simp [h]

end

/-! ### Every command -/

/-- Settles O2: every arm of `exec` answers a next state, and each of its operations passes the queue on. -/
theorem everyCommandCompletes : Obligations.EveryCommandCompletes := by
  intro c s
  cases c with
  | nop | readStatus | readIdent | readLimits | readChannel | readNode | setShare | setChain | setTime | clearCapture
  | clearCauses => exact ⟨_, rfl, s.request_pending fun _ => rfl⟩
  | setCursor lane slot pinion index direction =>
    exact ⟨_, rfl, s.request_pending fun u => (OwnLaneOnly.setCursor u lane slot pinion index direction).pending⟩
  | readNext lane => exact ⟨_, rfl, s.request_pending fun u => (OwnLaneOnly.readNext u lane).pending⟩
  | ackNotice lane kind => exact ⟨_, rfl, s.request_pending fun u => (OwnLaneOnly.ackNotice u lane kind).pending⟩
  | setMask lane mask => exact ⟨_, rfl, s.request_pending fun u => (OwnLaneOnly.setMask u lane mask).pending⟩
  | readTripSummary | sample | ackTrip | trip | arm | disarm | start | inch | stop | clearTrip | setLimits | setGains
  | setWatch | setChannel | discover | release | reset => exact ⟨_, rfl, s.request_pending fun _ => by simp⟩
  | selectionStart lane => exact ⟨_, rfl, s.startSelection_pending lane⟩
  | badFrame lane bytes => exact ⟨_, rfl, s.endBadFrame_pending lane bytes⟩
  | pendingSelection lane bytes => exact ⟨_, rfl, s.endPending_pending lane bytes⟩
  | powerOn straps pinLow => exact ⟨_, rfl, s.powerUp_pending straps pinLow⟩
  | resetPin => exact ⟨_, rfl, s.pinReset_pending⟩
  | resetPinRelease straps => exact ⟨_, rfl, s.pinRelease_pending straps⟩
  | initialisationEnd => exact ⟨_, rfl, s.endInitialisation_pending⟩
  | timeCountAdvance => exact ⟨_, rfl, s.advanceTime_pending⟩
  | rampTick => exact ⟨_, rfl, s.rampTick_pending⟩
  | silenceTimerExpiry pinion => exact ⟨_, rfl, s.silenceExpires_pending pinion⟩
  | stopTimerExpiry => exact ⟨_, rfl, s.stopExpires_pending⟩
  | postTripTimerExpiry => exact ⟨_, rfl, s.postTripExpires_pending⟩
  | roundStart => exact ⟨_, rfl, s.roundTimer_pending⟩
  | replyWindowClose position words => exact ⟨_, rfl, s.closeWindow_pending position words⟩
  | computationCompletion => exact ⟨_, rfl, s.computationCompletes_pending⟩
  | levelComputationCompletion channel => exact ⟨_, rfl, s.levelComputationCompletes_pending channel⟩
  | fetchCompletion lane => exact ⟨_, rfl, s.fetchCompletes_pending lane⟩

/-! ### The step (log entries 1 and 2) -/

theorem step_of_cons {c : Instr} {rest : List Instr} {s : State} (h : s.pending = c :: rest) :
    step s = exec c { s with pending := rest } := by
  unfold step
  rw [h]

theorem step_of_nil {s : State} (h : s.pending = []) : step s = .next s := by
  unfold step
  rw [h]

/-- Settles O1: a step looks at the queue first. -/
theorem stepTakesFrontCommand : Obligations.StepTakesFrontCommand :=
  ⟨fun _ _ _ h => step_of_cons h, fun _ h => step_of_nil h⟩

end Sys2Proof.Machine
end
